-- ==== Sys2Proof/Word.lean ====
section
/-! DEFINITION. The two word types of the core (00_scope.md R3, R4: 8-bit registers and bytes, 16-bit
pairs, SP, PC and addresses). Everything that cuts, joins or extends words is in Machine/Bytes.lean. -/

namespace Sys2Proof

/-- An 8-bit register or a byte of memory (R3, R10, R40). -/
abbrev Byte := BitVec 8

/-- A 16-bit value: a register pair, SP, PC or an address (R3, R11, R12, R13, R40). -/
abbrev Word := BitVec 16

end Sys2Proof
end

