-- ==== Sys2Proof/Machine/Bytes.lean ====
section
/-! DEFINITION. Cutting, joining and extending bytes and words: the notation of 00_scope.md section 5
(`zext`, `sext_16`, `++`, bit fields) and the byte order of 20_memory.md R43, R49. -/

namespace Sys2Proof

/-- `high * 256 + low` (R11, R43): the first argument is the more significant byte. -/
def joinBytes (hi lo : Byte) : Word := hi ++ lo

/-- `v[15:8]`. -/
def hiByte (v : Word) : Byte := v.extractLsb' 8 8

/-- `v[7:0]`. -/
def loByte (v : Word) : Byte := v.extractLsb' 0 8

/-- `sext_16(b)` (00_scope.md section 5): the 16-bit two's-complement extension of a byte. -/
def sext16 (n : Byte) : Word := n.signExtend 16

/-- `zext_16(b)`: the byte as an unsigned 16-bit value. -/
def zext16 (n : Byte) : Word := n.setWidth 16

/-- A flag as the byte 0 or 1. -/
def bitByte (b : Bool) : Byte := if b then 1 else 0

/-- A flag as the number 0 or 1. -/
def bitNat (b : Bool) : Nat := if b then 1 else 0

/-- The low nibble of a byte as a number (`v & 0xF`). -/
def lowNibble (v : Byte) : Nat := v.toNat % 16

end Sys2Proof
end

