-- ==== Sys2Proof/Config.lean ====
section
/-! DEFINITION. The parameters of the core that are constant for the life of a machine (00_scope.md R3).
The OPEN parameter INT_DISPATCH_TICKS is not fixed here: it is a field of State (log entry 4). The OPEN
parameter INIT_MEM is the memory a state lists, over `unlistedByte` (log entry 2). The OPEN parameter Mem is the
four constants without a body at the end (log entry 1). -/

namespace Sys2Proof.Config

/-- `PREFIX_BYTE` (R3, D1; R275). -/
def prefixByte : Byte := 0xCB

/-- `IE_ADDR`, the address of the interrupt enable register (R3, R21, D2). -/
def ieAddr : Word := 0xFFFF

/-- `IF_ADDR`, the address of the interrupt request register (R3, R22, D2). -/
def ifAddr : Word := 0xFF0F

/-- The base of the high page of `LDH` (R111 to R114, D36). -/
def highPage : Word := 0xFF00

/-- `HALT_QUANTUM`, the ticks of a halted step (R3, R92, D9). -/
def haltQuantum : Nat := 4

/-- The default of the OPEN parameter `INT_DISPATCH_TICKS` (R3, R299, D10); only `State.reset` uses it. -/
def intDispatchTicksDefault : Nat := 0

/-- What a byte of memory that no entry lists reads as. DESIGN CHOICE, unsafe (log entry 2): INIT_MEM is
OPEN (R27, D5); 0x00 is what the spec's reference memory holds before a program image is loaded (R310). -/
def unlistedByte : Byte := 0x00

/-- The number of bytes of the address space (R3, R40). -/
def addressCount : Nat := 65536

/-! ## The OPEN parameter Mem (20_memory.md R48, D27, U8; log entry 1)

A memory collaborator other than the reference instance: a state of its own, coded as a number, a total read
function and total write functions. The constants have no body, so whatever is proved of them is proved of every
collaborator. -/

/-- `Mem.read(addr) -> byte` (R48): it may answer anything (R47). -/
opaque memRead : Nat → Word → Byte

/-- `Mem.write(addr, byte) -> Mem` (R48): it may intercept the write (R47). -/
opaque memWrite : Nat → Word → Byte → Nat

/-- The privileged write variant, which bypasses the interception (R45). -/
opaque memPrivilegedWrite : Nat → Word → Byte → Nat

/-- Whether a word write at an address presents its low byte first: the order is not specified (R46, D32;
log entry 6). -/
opaque memLowByteFirst : Nat → Word → Bool

end Sys2Proof.Config
end

