-- ==== Sys2Proof/Forms.lean ====
section
/-! DEFINITION. The names of the operands (30_encoding.md R63 to R67), the five interrupt lines
(10_state.md R23), and the instruction FORMS of 70_reset_and_hazards.md R320: one `Form` constructor is
one shape of instruction with its operands spelled out, where `Instr` (Syntax.lean) has one constructor
per opcode. `Form.instr` and `Instr.form` (Decode.lean) go between the two. -/

namespace Sys2Proof

/-- The eight 8-bit registers of the register file (R10). -/
inductive Reg8
  | a | f | b | c | d | e | h | l
  deriving DecidableEq, Repr

/-- The seven registers an 8-bit operand code can name: codes 0 to 5 and 7 of R63. F has no code (R10). -/
inductive OpReg
  | b | c | d | e | h | l | a
  deriving DecidableEq, Repr

/-- The four pair views of the register file (R11); also the table `rp2` of R64. -/
inductive Pair
  | bc | de | hl | af
  deriving DecidableEq, Repr

/-- The table `rp` of R64: the operands of `LD rr,nn`, `ADD HL,rr`, `INC rr`, `DEC rr`. -/
inductive WideReg
  | bc | de | hl | sp
  deriving DecidableEq, Repr

/-- Condition codes (R65). -/
inductive Cond
  | nz | z | nc | c
  deriving DecidableEq, Repr

/-- The two-operand operations `alu[y]` of R66. -/
inductive AluOp
  | add | adc | sub | sbc | and | xor | or | cp
  deriving DecidableEq, Repr

/-- The rotates and shifts `rot[y]` of R66. -/
inductive RotOp
  | rlc | rrc | rl | rr | sla | sra | swap | srl
  deriving DecidableEq, Repr

/-- A three-bit number of the field y: the bit number of `BIT`, `RES`, `SET` (R67 d) or an eighth of the
target of `RST` (R67 e). -/
inductive Oct
  | o0 | o1 | o2 | o3 | o4 | o5 | o6 | o7
  deriving DecidableEq, Repr

/-- A readable 8-bit operand: a register, the byte at HL (code 6 of R63), or the operand byte n (R67 a). -/
inductive Src8
  | reg (r : OpReg)
  | atHl
  | imm (n : Byte)
  deriving DecidableEq, Repr

/-- A readable and writable 8-bit operand: a register or the byte at HL (R63). -/
inductive Loc8
  | reg (r : OpReg)
  | atHl
  deriving DecidableEq, Repr

/-- The five interrupt lines in priority order (R23, R281). -/
inductive Line
  | vblank | lcd | timer | serial | joypad
  deriving DecidableEq, Repr

/-- The eleven base opcodes with no defined hardware behaviour (R70). -/
inductive Undef
  | d3 | db | dd | e3 | e4 | eb | ec | ed | f4 | fc | fd
  deriving DecidableEq, Repr

/-- The five encoding formats (R61). -/
inductive Format
  | op1 | op2n | op2e | op3 | cb
  deriving DecidableEq, Repr

/-- The instruction forms of the tick table (R320), each with its operands; the rule of each is named. -/
inductive Form
  -- 41_loads8.md
  | ld (dst : OpReg) (src : Src8)      -- R100 `LD r,r'`, R101 `LD r,n`, R102 `LD r,(HL)`
  | ldToHl (r : OpReg)                 -- R103 `LD (HL),r`
  | ldHlImm (n : Byte)                 -- R104 `LD (HL),n`
  | ldABc | ldADe                      -- R105 `LD A,(BC)`, R106 `LD A,(DE)`
  | ldBcA | ldDeA                      -- R107 `LD (BC),A`, R108 `LD (DE),A`
  | ldANn (nn : Word)                  -- R109 `LD A,(nn)`
  | ldNnA (nn : Word)                  -- R110 `LD (nn),A`
  | ldhAN (n : Byte)                   -- R111 `LDH A,(n)`
  | ldhNA (n : Byte)                   -- R112 `LDH (n),A`
  | ldhAC | ldhCA                      -- R113 `LDH A,(C)`, R114 `LDH (C),A`
  | ldHliA | ldAHli                    -- R115 `LD (HL+),A`, R116 `LD A,(HL+)`
  | ldHldA | ldAHld                    -- R117 `LD (HL-),A`, R118 `LD A,(HL-)`
  -- 42_loads16_stack.md
  | ldWide (rr : WideReg) (nn : Word)  -- R132 `LD rr,nn`
  | ldNnSp (nn : Word)                 -- R133 `LD (nn),SP`
  | ldSpHl                             -- R134 `LD SP,HL`
  | ldHlSpE (e : Byte)                 -- R135 `LD HL,SP+e`
  | push (p : Pair)                    -- R136 `PUSH rr`
  | pop (p : Pair)                     -- R137 `POP rr`, R138 `POP AF`
  -- 43_alu8.md
  | alu (op : AluOp) (src : Src8)      -- R160 to R183
  | inc (x : Loc8)                     -- R184 `INC r`, R185 `INC (HL)`
  | dec (x : Loc8)                     -- R186 `DEC r`, R187 `DEC (HL)`
  | daa | cpl | scf | ccf              -- R188, R189, R190, R191
  -- 44_alu16.md
  | addHl (rr : WideReg)               -- R201 `ADD HL,rr`
  | incWide (rr : WideReg)             -- R202 `INC rr`
  | decWide (rr : WideReg)             -- R203 `DEC rr`
  | addSpE (e : Byte)                  -- R204 `ADD SP,e`
  -- 45_rotate_shift_bit.md
  | rlca | rla | rrca | rra            -- R221, R222, R223, R224
  | rot (op : RotOp) (x : Loc8)        -- R225 to R240
  | bit (b : Oct) (x : Loc8)           -- R241, R242
  | res (b : Oct) (x : Loc8)           -- R243, R244
  | set (b : Oct) (x : Loc8)           -- R245, R246
  -- 46_control.md
  | jp (nn : Word)                     -- R251 `JP nn`
  | jpCc (cc : Cond) (nn : Word)       -- R252 `JP cc,nn`
  | jpHl                               -- R253 `JP HL`
  | jr (e : Byte)                      -- R254 `JR e`
  | jrCc (cc : Cond) (e : Byte)        -- R255 `JR cc,e`
  | call (nn : Word)                   -- R256 `CALL nn`
  | callCc (cc : Cond) (nn : Word)     -- R257 `CALL cc,nn`
  | ret | retCc (cc : Cond) | reti     -- R258, R259, R260
  | rst (y : Oct)                      -- R261 `RST t`, t = 8 * y
  -- 47_system.md
  | nop | halt | stop (n : Byte)       -- R270, R271, R272
  | di | ei | prefixCb                 -- R273, R274, R275
  | undef (u : Undef)                  -- R276
  deriving DecidableEq, Repr

end Sys2Proof
end

