-- ==== Sys2Proof/Machine/State.lean ====
section
/-! DEFINITION. The state of the machine as plain data (10_state.md), the reasons a step can stop, and the
state after reset (70_reset_and_hazards.md R310). -/

namespace Sys2Proof.Machine

/-- The contents of the reference memory: the bytes that differ from what an unlisted byte reads as, by rising
address (20_memory.md R40, R48; log entry 2). -/
abbrev Cells := List Host.Cell

/-- The canonical form: addresses strictly rising and inside the address space, no entry equal to what an
unlisted address reads as. -/
abbrev Cells.wf (m : Cells) : Prop :=
  m.Pairwise (fun x y => x.1 < y.1) ∧ ∀ x ∈ m, x.1 < Config.addressCount ∧ x.2 ≠ Config.unlistedByte

/-- The memory collaborator, the parameter `Mem` (R48, D27; log entry 1). -/
inductive Memory
  /-- The reference instance: a flat array of 65536 bytes. -/
  | flat (cells : Cells)
  /-- Any other instance, in the state `state`: it reads and writes as the constants of Config that have no body
  say. -/
  | other (state : Nat)
  deriving DecidableEq, Repr

/-- The memory is the reference instance. -/
def Memory.isFlat : Memory → Bool
  | .flat _ => true
  | .other _ => false

/-- The cells that a memory lists; another collaborator lists none. -/
def Memory.cells : Memory → Cells
  | .flat c => c
  | .other _ => []

/-- What memory lists is in canonical form. -/
abbrev Memory.wf (m : Memory) : Prop := m.cells.wf

/-- The register file: eight 8-bit registers (R10). -/
structure RegFile where
  a : Byte
  f : Byte
  b : Byte
  c : Byte
  d : Byte
  e : Byte
  h : Byte
  l : Byte
  deriving DecidableEq, Repr

/-- The state of the core (R24: R10 to R20 are all of it) with the memory it uses (R48), in which IE and IF
are bytes (R21, R22). -/
structure State where
  /-- A, F, B, C, D, E, H, L (R10). -/
  regs : RegFile
  /-- The stack pointer (R12). -/
  sp : Word
  /-- The program counter (R13). -/
  pc : Word
  /-- The global interrupt enable flag (R17). -/
  ime : Bool
  /-- The halt flag (R18). -/
  halt : Bool
  /-- The extended-prefix flag (R19): false is dispatcher state Normal, true is ExtendedPending. -/
  ext : Bool
  /-- The cycle counter: the running total of ticks, never wrapping (R20, D25; log entry 8). -/
  cyc : Nat
  /-- The memory collaborator with its state (R48; log entry 1). -/
  mem : Memory
  /-- The model's own field: the value of the OPEN parameter INT_DISPATCH_TICKS (R3, R299, D10), constant
  for the life of the machine; no instruction and no step writes it (log entry 4). -/
  intDispatchTicks : Nat
  deriving DecidableEq, Repr

/-- Why the machine stops with a fault: never. The core has no fault state (R93) and raises no synchronous
exception (R280), so there is no constructor (log entry 16). -/
inductive Fault
  deriving DecidableEq, Repr

/-- Why an instruction is refused. -/
inductive Refusal
  /-- Raised by `exec` for an instruction that has no meaning yet; no arm of this model raises it. Safe. -/
  | notModelled (mnemonic : String)
  deriving DecidableEq, Repr

/-- What a meaning and a step answer. -/
abbrev Result := Host.Outcome State Fault Refusal

/-- The register file after reset: all zero (R25; F by name, the others by the spec's reading D4; log 3). -/
def RegFile.reset : RegFile :=
  { a := 0x00, f := 0x00, b := 0x00, c := 0x00, d := 0x00, e := 0x00, h := 0x00, l := 0x00 }

/-- The machine right after reset (R25, R26, R310); memory is the reference instance
(R48; log 1) and lists nothing (R27 leaves it OPEN; log 2). -/
def State.reset : State :=
  { regs := RegFile.reset
    sp := 0x0000
    pc := 0x0000
    ime := false
    halt := false
    ext := false
    cyc := 0
    mem := .flat []
    intDispatchTicks := Config.intDispatchTicksDefault }

end Sys2Proof.Machine
end

