-- ==== Sys2Proof/Machine/Ops.lean ====
section
/-! DEFINITION. The named operations over registers and memory, the stack, the end of an instruction, the
interrupt check and dispatch with the return from it, the halted step, and the interface of the environment.
Every meaning reads and writes the state through these. -/

namespace Sys2Proof

/-- The high register of a pair: the first-named (R11). -/
def Pair.hi : Pair → Reg8
  | .bc => .b | .de => .d | .hl => .h | .af => .a

/-- The low register of a pair: the second-named (R11). -/
def Pair.lo : Pair → Reg8
  | .bc => .c | .de => .e | .hl => .l | .af => .f

/-- The register that an operand code names (R63). -/
def OpReg.reg : OpReg → Reg8
  | .b => .b | .c => .c | .d => .d | .e => .e | .h => .h | .l => .l | .a => .a

/-- The mask of a line in IE and IF, bit `LINE_BIT` (R3, R23, D3). -/
def Line.mask : Line → Byte
  | .vblank => 0x01 | .lcd => 0x02 | .timer => 0x04 | .serial => 0x08 | .joypad => 0x10

/-- The service address of a line, `VEC` (R3, R281, D3). -/
def Line.vector : Line → Word
  | .vblank => 0x0040 | .lcd => 0x0048 | .timer => 0x0050 | .serial => 0x0058 | .joypad => 0x0060

/-- The lines, highest priority first (R281, R283). -/
def Line.byPriority : List Line := [.vblank, .lcd, .timer, .serial, .joypad]

namespace Machine

/-! ## Registers (10_state.md) -/

/-- F as it reads and as it is stored: bits 3:0 are hard-wired to zero (R15, U13; log entry 14). -/
def maskF (v : Byte) : Byte := v &&& 0xF0

/-- `x[r]` (R10): the one read of an 8-bit register. Bits 3:0 of F read as zero (R15). -/
def State.reg (s : State) : Reg8 → Byte
  | .a => s.regs.a
  | .f => maskF s.regs.f
  | .b => s.regs.b
  | .c => s.regs.c
  | .d => s.regs.d
  | .e => s.regs.e
  | .h => s.regs.h
  | .l => s.regs.l

/-- The register file with one register written. A write of F stores `v & 0xF0` (R15). -/
def RegFile.set (rf : RegFile) (r : Reg8) (v : Byte) : RegFile :=
  match r with
  | .a => { rf with a := v }
  | .f => { rf with f := maskF v }
  | .b => { rf with b := v }
  | .c => { rf with c := v }
  | .d => { rf with d := v }
  | .e => { rf with e := v }
  | .h => { rf with h := v }
  | .l => { rf with l := v }

/-- `x[r] <- v` (R10): the one write of an 8-bit register. -/
def State.setReg (s : State) (r : Reg8) (v : Byte) : State :=
  { s with regs := s.regs.set r v }

/-- `xx[rr]` (R11): `high * 256 + low`. -/
def State.pair (s : State) (p : Pair) : Word :=
  joinBytes (s.reg p.hi) (s.reg p.lo)

/-- `xx[rr] <- v` (R11): `v[15:8]` to the high register, `v[7:0]` to the low one. -/
def State.setPair (s : State) (p : Pair) (v : Word) : State :=
  (s.setReg p.hi (hiByte v)).setReg p.lo (loByte v)

/-- SP written (R12). -/
def State.setSp (s : State) (v : Word) : State := { s with sp := v }

/-- PC written (R13). -/
def State.setPc (s : State) (v : Word) : State := { s with pc := v }

/-- IME written (R17). -/
def State.setIme (s : State) (v : Bool) : State := { s with ime := v }

/-- HALT written (R18). -/
def State.setHalt (s : State) (v : Bool) : State := { s with halt := v }

/-- EXT written (R19). -/
def State.setExt (s : State) (v : Bool) : State := { s with ext := v }

/-- CYC advanced by a tick count (R90). -/
def State.addTicks (s : State) (t : Nat) : State := { s with cyc := s.cyc + t }

/-- An operand of the table `rp` (R64): a pair of the register file or SP. -/
def State.wide (s : State) : WideReg → Word
  | .bc => s.pair .bc
  | .de => s.pair .de
  | .hl => s.pair .hl
  | .sp => s.sp

/-- The write of an operand of the table `rp` (R64). -/
def State.setWide (s : State) (r : WideReg) (v : Word) : State :=
  match r with
  | .bc => s.setPair .bc v
  | .de => s.setPair .de v
  | .hl => s.setPair .hl v
  | .sp => s.setSp v

/-! ## Memory (20_memory.md) -/

/-- The byte at a key: the first entry that lists it, or what an unlisted byte reads as. -/
def Cells.lookup : Cells → Nat → Byte
  | [], _ => Config.unlistedByte
  | x :: m, k => if x.1 = k then x.2 else Cells.lookup m k

/-- Cells with no entry at a key. -/
def Cells.erase (m : Cells) (k : Nat) : Cells := m.filter (fun x => x.1 != k)

/-- An entry put in its place by rising address. -/
def Cells.place (k : Nat) (v : Byte) : Cells → Cells
  | [] => [(k, v)]
  | x :: m => if k < x.1 then (k, v) :: x :: m else x :: Cells.place k v m

/-- A byte stored. Storing what an unlisted byte reads as removes the entry, so the form stays canonical. -/
def Cells.store (m : Cells) (k : Nat) (v : Byte) : Cells :=
  if v = Config.unlistedByte then m.erase k else (m.erase k).place k v

/-- `Mem.read` (R48): of the reference instance, the last value written or the initial one. -/
def Memory.read (m : Memory) (a : Word) : Byte :=
  match m with
  | .flat c => c.lookup a.toNat
  | .other k => Config.memRead k a

/-- `Mem.write` (R48): of the reference instance, the byte stored and no other effect. -/
def Memory.write (m : Memory) (a : Word) (v : Byte) : Memory :=
  match m with
  | .flat c => .flat (c.store a.toNat v)
  | .other k => .other (Config.memWrite k a v)

/-- The privileged write variant (R45): the reference instance has nothing to bypass (log entry 18). -/
def Memory.privilegedWrite (m : Memory) (a : Word) (v : Byte) : Memory :=
  match m with
  | .flat c => .flat (c.store a.toNat v)
  | .other k => .other (Config.memPrivilegedWrite k a v)

/-- A word written: `v[7:0]` at the address and `v[15:8]` at the next (R43, R44). The order of the two is open
(R46; log entry 6), which the reference instance does not show. -/
def Memory.writeWord (m : Memory) (a v : Word) : Memory :=
  match m with
  | .flat c => ((Memory.flat c).write a (loByte v)).write (a + 1) (hiByte v)
  | .other k =>
    if Config.memLowByteFirst k a then ((Memory.other k).write a (loByte v)).write (a + 1) (hiByte v)
    else ((Memory.other k).write (a + 1) (hiByte v)).write a (loByte v)

/-- `MemRead(addr, 1)` (R41). -/
def State.read8 (s : State) (a : Word) : Byte := s.mem.read a

/-- `MemWrite(addr, 1, v)` (R41). -/
def State.write8 (s : State) (a : Word) (v : Byte) : State := { s with mem := s.mem.write a v }

/-- `MemRead(addr, 2)` (R43): little-endian, the high byte at `addr + 1` modulo 65536 (R44). -/
def State.read16 (s : State) (a : Word) : Word := joinBytes (s.read8 (a + 1)) (s.read8 a)

/-- `MemWrite(addr, 2, v)` (R43): `v[7:0]` at addr, `v[15:8]` at `addr + 1` modulo 65536 (R44). -/
def State.write16 (s : State) (a : Word) (v : Word) : State := { s with mem := s.mem.writeWord a v }

/-! ## The stack (42_loads16_stack.md) -/

/-- `Push16(v)` (R130): SP down by 2, then the word stored at SP. -/
def State.push16 (s : State) (v : Word) : State :=
  (s.setSp (s.sp - 2)).write16 (s.sp - 2) v

/-- The value of `Pop16()` (R131): the word at SP. -/
def State.popValue (s : State) : Word := s.read16 s.sp

/-- The state after `Pop16()` (R131): SP up by 2. -/
def State.popDone (s : State) : State := s.setSp (s.sp + 2)

/-! ## The end of an instruction (40_dispatch.md) -/

/-- The end of an instruction that leaves PC to the automatic advance (R85): PC, which still holds `pc0`,
moves by the length, and the ticks go to CYC (R87, R90). -/
def retire (length ticks : Nat) (s : State) : Result :=
  .next ((s.setPc (s.pc + BitVec.ofNat 16 length)).addTicks ticks)

/-- The end of an instruction that redirects PC, `pc <- target` (R85, R86). -/
def redirect (target : Word) (ticks : Nat) (s : State) : Result :=
  .next ((s.setPc target).addTicks ticks)

/-- `next`, the address of the following instruction, for an instruction of `length` bytes at PC. -/
def State.following (s : State) (length : Nat) : Word := s.pc + BitVec.ofNat 16 length

/-! ## Interrupts (60_exceptions.md) -/

/-- The line's enable bit in IE is set (R282, R288). -/
def State.lineEnabled (s : State) (l : Line) : Bool := s.read8 Config.ieAddr &&& l.mask != 0

/-- The line's request bit in IF is set (R282, R288). -/
def State.lineRequested (s : State) (l : Line) : Bool := s.read8 Config.ifAddr &&& l.mask != 0

/-- Some line is requested (R288): the wake condition of the halted step, bits 7:5 of IF left out (R92). -/
def State.anyRequested (s : State) : Bool := s.read8 Config.ifAddr &&& 0x1F != 0

/-- The line that the interrupt check finds (R283, R284): none with IME = 0, else the first by priority
whose enable bit and request bit are both set. -/
def State.firstDispatchable (s : State) : Option Line :=
  if s.ime then Line.byPriority.find? (fun l => s.lineEnabled l && s.lineRequested l) else none

/-- Taking an interrupt, `Dispatch(i, if_)` (R285), in the source's order: clear IME, write IF back with the
line's request bit cleared, push PC, set PC to the line's vector. Nothing else is saved or changed. -/
def State.dispatch (s : State) (l : Line) : State :=
  let cleared := (s.setIme false).write8 Config.ifAddr (s.read8 Config.ifAddr &&& ~~~ l.mask)
  (cleared.push16 s.pc).setPc l.vector

/-- The interrupt check of a non-halted step (R80, R284): at most one dispatch, and its ticks (R299). -/
def State.interruptCheck (s : State) : State :=
  match s.firstDispatchable with
  | none => s
  | some l => (s.dispatch l).addTicks s.intDispatchTicks

/-- The return from an interrupt (R260, R290): pop PC and set IME. Nothing else was saved. -/
def State.returnFromInterrupt (s : State) : State :=
  (s.popDone.setPc s.popValue).setIme true

/-- The halted step (R92): no fetch, no interrupt check; the quantum goes to CYC, and a request in IF,
enabled or not, clears HALT. -/
def State.haltedStep (s : State) : State :=
  (s.addTicks Config.haltQuantum).setHalt (!s.anyRequested)

/-! ## The environment's interface (20_memory.md R45, R51; 60_exceptions.md R287, R288)

These act between steps, never inside one (R51 b, c; log entry 5). -/

/-- The privileged write variant of the port (R45): used by the environment only (log entry 18). -/
def State.privilegedWrite (s : State) (a : Word) (v : Byte) : State :=
  { s with mem := s.mem.privilegedWrite a v }

/-- `raise(line)` (R288), by the privileged write, which is the way the environment raises a request (R45). -/
def State.raiseLine (s : State) (l : Line) : State :=
  s.privilegedWrite Config.ifAddr (s.read8 Config.ifAddr ||| l.mask)

/-- `clear(line)` (R288). That it makes the privileged write is the model's choice (DESIGN CHOICE, log entry 20). -/
def State.clearLine (s : State) (l : Line) : State :=
  s.privilegedWrite Config.ifAddr (s.read8 Config.ifAddr &&& ~~~ l.mask)

/-- `enable(line)` (R288). That it makes the privileged write is the model's choice (DESIGN CHOICE, log entry 20). -/
def State.enableLine (s : State) (l : Line) : State :=
  s.privilegedWrite Config.ieAddr (s.read8 Config.ieAddr ||| l.mask)

/-- `disable(line)` (R288). That it makes the privileged write is the model's choice (DESIGN CHOICE, log entry 20). -/
def State.disableLine (s : State) (l : Line) : State :=
  s.privilegedWrite Config.ieAddr (s.read8 Config.ieAddr &&& ~~~ l.mask)

/-- "globally enabled" (R288). -/
def State.globallyEnabled (s : State) : Bool := s.ime

/-- The tick count that the step from `before` to `after` reports (R87, R90): what it added to CYC (log
entry 9). -/
def reportedTicks (before after : State) : Nat := after.cyc - before.cyc

end Machine

end Sys2Proof
end

