-- ==== Sys2Proof/Machine/Flags.lean ====
section
/-! DEFINITION. The flags (10_state.md R14 to R16) and every result and flag computation of the ALU and bit
helpers (43_alu8.md part 1, 44_alu16.md, 45_rotate_shift_bit.md part 1), on unbounded integers where the
spec computes on them. -/

namespace Sys2Proof

namespace Machine

/-- The four named flags (R14). -/
structure Flags where
  z : Bool
  n : Bool
  h : Bool
  c : Bool
  deriving DecidableEq, Repr

/-- The flags packed in the high nibble of F: Z 7, N 6, H 5, C 4 (R14). -/
def Flags.pack (fl : Flags) : Byte :=
  (bitByte fl.z <<< 7) ||| (bitByte fl.n <<< 6) ||| (bitByte fl.h <<< 5) ||| (bitByte fl.c <<< 4)

/-- The flags read from F (R14). -/
def State.flags (s : State) : Flags :=
  { z := (s.reg .f).getLsbD 7
    n := (s.reg .f).getLsbD 6
    h := (s.reg .f).getLsbD 5
    c := (s.reg .f).getLsbD 4 }

/-- The flags written to F (R14, R15). -/
def State.setFlags (s : State) (fl : Flags) : State := s.setReg .f fl.pack

/-! ## 8-bit arithmetic and logic: the accumulator `a` and the operand `v` -/

/-- `Add8(v)` (R150). -/
def add8 (a v : Byte) : Byte × Flags :=
  let s := a.toNat + v.toNat
  (BitVec.ofNat 8 s,
    { z := s % 256 == 0, n := false, h := decide (lowNibble a + lowNibble v > 0xF), c := decide (s > 0xFF) })

/-- `Adc8(v)` with carry-in `c` (R151). -/
def adc8 (c : Bool) (a v : Byte) : Byte × Flags :=
  let s := a.toNat + v.toNat + bitNat c
  (BitVec.ofNat 8 s,
    { z := s % 256 == 0, n := false
      h := decide (lowNibble a + lowNibble v + bitNat c > 0xF), c := decide (s > 0xFF) })

/-- `Sub8(v)` (R152), at full precision. -/
def sub8 (a v : Byte) : Byte × Flags :=
  let d : Int := (a.toNat : Int) - v.toNat
  (BitVec.ofInt 8 d,
    { z := d % 256 == 0, n := true, h := decide (lowNibble a < lowNibble v), c := decide (d < 0) })

/-- `Sbc8(v)` with carry-in `c` (R153), at full precision. -/
def sbc8 (c : Bool) (a v : Byte) : Byte × Flags :=
  let d : Int := (a.toNat : Int) - v.toNat - bitNat c
  (BitVec.ofInt 8 d,
    { z := d % 256 == 0, n := true
      h := decide ((lowNibble a : Int) - lowNibble v - bitNat c < 0), c := decide (d < 0) })

/-- `And8(v)` (R154). -/
def and8 (a v : Byte) : Byte × Flags :=
  (a &&& v, { z := a &&& v == 0, n := false, h := true, c := false })

/-- `Xor8(v)` (R155). -/
def xor8 (a v : Byte) : Byte × Flags :=
  (a ^^^ v, { z := a ^^^ v == 0, n := false, h := false, c := false })

/-- `Or8(v)` (R156). -/
def or8 (a v : Byte) : Byte × Flags :=
  (a ||| v, { z := a ||| v == 0, n := false, h := false, c := false })

/-- `Cp8(v)` (R157): the flags of a subtraction, the accumulator kept. -/
def cp8 (a v : Byte) : Byte × Flags :=
  (a, { z := a == v, n := true, h := decide (lowNibble a < lowNibble v), c := decide (a.toNat < v.toNat) })

end Machine

/-- The operation `alu[y]` (R66) with the old carry `c`: the new accumulator and the flags. -/
def AluOp.apply (op : AluOp) (c : Bool) (a v : Byte) : Byte × Machine.Flags :=
  match op with
  | .add => Machine.add8 a v
  | .adc => Machine.adc8 c a v
  | .sub => Machine.sub8 a v
  | .sbc => Machine.sbc8 c a v
  | .and => Machine.and8 a v
  | .xor => Machine.xor8 a v
  | .or => Machine.or8 a v
  | .cp => Machine.cp8 a v

namespace Machine

/-- `Inc8(v)` (R158); C is kept. -/
def inc8 (old : Flags) (v : Byte) : Byte × Flags :=
  let r := BitVec.ofNat 8 (v.toNat + 1)
  (r, { z := r == 0, n := false, h := lowNibble v == 0xF, c := old.c })

/-- `Dec8(v)` (R159); C is kept. -/
def dec8 (old : Flags) (v : Byte) : Byte × Flags :=
  let r := BitVec.ofInt 8 ((v.toNat : Int) - 1)
  (r, { z := r == 0, n := true, h := lowNibble v == 0x0, c := old.c })

/-- The unbounded sum or difference that `DAA` forms (R188), and its new carry. The low-nibble test reads
the accumulator before 0x60 is added, which leaves that nibble alone (D19). -/
def daaValue (old : Flags) (a : Byte) : Int × Bool :=
  if old.n then
    ((a.toNat : Int) - (if old.c then 0x60 else 0) - (if old.h then 0x06 else 0), old.c)
  else
    let c := old.c || decide (a.toNat > 0x99)
    ((a.toNat : Int) + (if c then 0x60 else 0) + (if old.h || decide (lowNibble a > 0x09) then 0x06 else 0), c)

/-- `DAA` (R188): N is kept, H cleared. -/
def daa8 (old : Flags) (a : Byte) : Byte × Flags :=
  let (x, c) := daaValue old a
  (BitVec.ofInt 8 x, { z := x % 256 == 0, n := old.n, h := false, c := c })

/-! ## 16-bit arithmetic -/

/-- `AddSP(sp, n)` (R200, D17): the sum and the carries out of bits 3 and 7 by the XOR test. -/
def addSp (sp : Word) (n : Byte) : Word × Flags :=
  let result := sp + sext16 n
  let t := sp ^^^ sext16 n ^^^ result
  (result, { z := false, n := false, h := t.getLsbD 4, c := t.getLsbD 8 })

/-- The sum and the flags of `ADD HL,rr` (R201); Z is kept. -/
def addHl16 (old : Flags) (a b : Word) : Word × Flags :=
  (BitVec.ofNat 16 (a.toNat + b.toNat),
    { z := old.z, n := false
      h := decide (a.toNat % 4096 + b.toNat % 4096 > 0x0FFF), c := decide (a.toNat + b.toNat > 0xFFFF) })

/-! ## Rotates, shifts and bit operations -/

/-- The flags of a rotate or shift: Z from the result, N = H = 0, C the bit moved out (R210 to R217). -/
def shiftFlags (r : Byte) (carry : Bool) : Flags :=
  { z := r == 0, n := false, h := false, c := carry }

/-- `Rlc(v)` (R210). -/
def rlc8 (v : Byte) : Byte × Flags :=
  let r := (v <<< 1) ||| bitByte (v.getLsbD 7)
  (r, shiftFlags r (v.getLsbD 7))

/-- `Rrc(v)` (R211). -/
def rrc8 (v : Byte) : Byte × Flags :=
  let r := (v >>> 1) ||| (bitByte (v.getLsbD 0) <<< 7)
  (r, shiftFlags r (v.getLsbD 0))

/-- `Rl(v)` with the old carry `c` (R212). -/
def rl8 (c : Bool) (v : Byte) : Byte × Flags :=
  let r := (v <<< 1) ||| bitByte c
  (r, shiftFlags r (v.getLsbD 7))

/-- `Rr(v)` with the old carry `c` (R213). -/
def rr8 (c : Bool) (v : Byte) : Byte × Flags :=
  let r := (v >>> 1) ||| (bitByte c <<< 7)
  (r, shiftFlags r (v.getLsbD 0))

/-- `Sla(v)` (R214). -/
def sla8 (v : Byte) : Byte × Flags :=
  let r := v <<< 1
  (r, shiftFlags r (v.getLsbD 7))

/-- `Sra(v)` (R215): bit 7 is kept. -/
def sra8 (v : Byte) : Byte × Flags :=
  let r := (v >>> 1) ||| (v &&& 0x80)
  (r, shiftFlags r (v.getLsbD 0))

/-- `Swap(v)` (R216): the nibbles exchanged, C cleared. -/
def swap8 (v : Byte) : Byte × Flags :=
  let r := (v <<< 4) ||| (v >>> 4)
  (r, shiftFlags r false)

/-- `Srl(v)` (R217). -/
def srl8 (v : Byte) : Byte × Flags :=
  let r := v >>> 1
  (r, shiftFlags r (v.getLsbD 0))

end Machine

/-- The operation `rot[y]` (R66) with the old carry `c`. -/
def RotOp.apply (op : RotOp) (c : Bool) (v : Byte) : Byte × Machine.Flags :=
  match op with
  | .rlc => Machine.rlc8 v
  | .rrc => Machine.rrc8 v
  | .rl => Machine.rl8 c v
  | .rr => Machine.rr8 c v
  | .sla => Machine.sla8 v
  | .sra => Machine.sra8 v
  | .swap => Machine.swap8 v
  | .srl => Machine.srl8 v

namespace Machine

end Machine

/-- The bit number of a three-bit field (R67 d). -/
def Oct.number : Oct → Nat
  | .o0 => 0 | .o1 => 1 | .o2 => 2 | .o3 => 3 | .o4 => 4 | .o5 => 5 | .o6 => 6 | .o7 => 7

namespace Machine

/-- `Bit(b, v)` (R218): the flags alone; C is kept. -/
def bitTest (old : Flags) (b : Oct) (v : Byte) : Flags :=
  { z := !v.getLsbD b.number, n := false, h := true, c := old.c }

/-- `Res(b, v)` (R219). -/
def res8 (b : Oct) (v : Byte) : Byte := v &&& ~~~ (1#8 <<< b.number)

/-- `Set(b, v)` (R220). -/
def set8 (b : Oct) (v : Byte) : Byte := v ||| (1#8 <<< b.number)

end Machine

end Sys2Proof
end

