-- ==== Sys2Proof/Machine/Operands.lean ====
section
/-! DEFINITION. Every operand form: 8-bit sources and locations (30_encoding.md R63), effective addresses
(41_loads8.md, "Addressing modes of this family"), conditions (46_control.md R250), and the targets of jumps
and restarts (R254, R261). -/

namespace Sys2Proof

namespace Machine

/-- The address of operand code 6 and of the `(HL)` modes: `xx[HL]` (R63). -/
def State.hl (s : State) : Word := s.pair .hl

/-- A high-page address, `0xFF00 + n` (R111 to R114). -/
def highPageAddr (n : Byte) : Word := Config.highPage + zext16 n

end Machine

/-- The value of an 8-bit source (R63, R67 a). -/
def Src8.value (x : Src8) (s : Machine.State) : Byte :=
  match x with
  | .reg r => s.reg r.reg
  | .atHl => s.read8 s.hl
  | .imm n => n

/-- The value of an 8-bit location (R63). -/
def Loc8.value (x : Loc8) (s : Machine.State) : Byte :=
  match x with
  | .reg r => s.reg r.reg
  | .atHl => s.read8 s.hl

/-- An 8-bit location written (R63). -/
def Loc8.put (x : Loc8) (v : Byte) (s : Machine.State) : Machine.State :=
  match x with
  | .reg r => s.setReg r.reg v
  | .atHl => s.write8 s.hl v

/-- The length of an instruction with an 8-bit source: the operand byte counts (R160 to R183). -/
def Src8.length : Src8 → Nat
  | .reg _ | .atHl => 1
  | .imm _ => 2

/-- The ticks of an instruction with an 8-bit source (R320). -/
def Src8.ticks : Src8 → Nat
  | .reg _ => 4
  | .atHl | .imm _ => 8

/-- The ticks of an instruction that reads and writes an 8-bit location (R320). -/
def Loc8.modifyTicks : Loc8 → Nat
  | .reg _ => 4
  | .atHl => 12

/-- The ticks of an instruction that only reads an 8-bit location (R241, R242, R320). -/
def Loc8.testTicks : Loc8 → Nat
  | .reg _ => 4
  | .atHl => 8

/-- `Cond(cc)` (R250). -/
def Cond.holds (cc : Cond) (s : Machine.State) : Bool :=
  match cc with
  | .nz => !s.flags.z
  | .z => s.flags.z
  | .nc => !s.flags.c
  | .c => s.flags.c

namespace Machine

/-- The target of a relative jump of two bytes at PC: `pc0 + 2 + sext_16(n)` modulo 65536 (R254, D14). -/
def State.relativeTarget (s : State) (e : Byte) : Word := s.following 2 + sext16 e

end Machine

/-- The target of `RST`, `8 * y` (R67 e, R261). -/
def Oct.restart (y : Oct) : Word := BitVec.ofNat 16 (8 * Oct.number y)

end Sys2Proof
end

