-- ==== Sys2Proof/Machine/Alu16.lean ====
section
/-! DEFINITION. 16-bit arithmetic (44_alu16.md R200 to R204). -/

namespace Sys2Proof.Machine

/-! ## Shared operations -/

/-- `ADD HL,rr` (R201). -/
def addToHl (rr : WideReg) (s : State) : Result :=
  let (r, fl) := addHl16 s.flags s.hl (s.wide rr)
  retire 1 8 ((s.setPair .hl r).setFlags fl)

/-- `INC rr` (R202): no flag. -/
def incWideReg (rr : WideReg) (s : State) : Result :=
  retire 1 8 (s.setWide rr (s.wide rr + 1))

/-- `DEC rr` (R203): no flag. -/
def decWideReg (rr : WideReg) (s : State) : Result :=
  retire 1 8 (s.setWide rr (s.wide rr - 1))

/-- `ADD SP,e` (R204). -/
def addToSp (e : Byte) (s : State) : Result :=
  retire 2 16 ((s.setSp (addSp s.sp e).1).setFlags (addSp s.sp e).2)

/-! ## The instructions -/

/-- `INC BC` (R202). -/
def exec_inc_bc (s : State) : Result := incWideReg .bc s

/-- `ADD HL,BC` (R201). -/
def exec_add_hl_bc (s : State) : Result := addToHl .bc s

/-- `DEC BC` (R203). -/
def exec_dec_bc (s : State) : Result := decWideReg .bc s

/-- `INC DE` (R202). -/
def exec_inc_de (s : State) : Result := incWideReg .de s

/-- `ADD HL,DE` (R201). -/
def exec_add_hl_de (s : State) : Result := addToHl .de s

/-- `DEC DE` (R203). -/
def exec_dec_de (s : State) : Result := decWideReg .de s

/-- `INC HL` (R202). -/
def exec_inc_hl (s : State) : Result := incWideReg .hl s

/-- `ADD HL,HL` (R201). -/
def exec_add_hl_hl (s : State) : Result := addToHl .hl s

/-- `DEC HL` (R203). -/
def exec_dec_hl (s : State) : Result := decWideReg .hl s

/-- `INC SP` (R202). -/
def exec_inc_sp (s : State) : Result := incWideReg .sp s

/-- `ADD HL,SP` (R201). -/
def exec_add_hl_sp (s : State) : Result := addToHl .sp s

/-- `DEC SP` (R203). -/
def exec_dec_sp (s : State) : Result := decWideReg .sp s

/-- `ADD SP,e` (R204). -/
def exec_add_sp_e (e : Byte) (s : State) : Result := addToSp e s

end Sys2Proof.Machine
end

