-- ==== Sys2Proof/Machine/Alu8.lean ====
section
/-! DEFINITION. The 8-bit arithmetic and logic instructions (43_alu8.md R160 to R191). -/

namespace Sys2Proof.Machine

/-! ## Shared operations -/

/-- The 24 two-operand instructions (R160 to R183): accumulator, operand and old carry to accumulator and
flags. -/
def aluAcc (op : AluOp) (src : Src8) (s : State) : Result :=
  let (r, fl) := op.apply s.flags.c (s.reg .a) (src.value s)
  retire src.length src.ticks ((s.setReg .a r).setFlags fl)

/-- `INC r` (R184), `INC (HL)` (R185). -/
def incLoc (x : Loc8) (s : State) : Result :=
  let (r, fl) := inc8 s.flags (x.value s)
  retire 1 x.modifyTicks ((x.put r s).setFlags fl)

/-- `DEC r` (R186), `DEC (HL)` (R187). -/
def decLoc (x : Loc8) (s : State) : Result :=
  let (r, fl) := dec8 s.flags (x.value s)
  retire 1 x.modifyTicks ((x.put r s).setFlags fl)

/-- `DAA` (R188). -/
def decimalAdjust (s : State) : Result :=
  let (r, fl) := daa8 s.flags (s.reg .a)
  retire 1 4 ((s.setReg .a r).setFlags fl)

/-- `CPL` (R189): A complemented, N = H = 1, Z and C kept. -/
def complementA (s : State) : Result :=
  retire 1 4 ((s.setReg .a (s.reg .a ^^^ 0xFF)).setFlags { s.flags with n := true, h := true })

/-- `SCF` (R190): C = 1, N = H = 0, Z kept. -/
def setCarry (s : State) : Result :=
  retire 1 4 (s.setFlags { z := s.flags.z, n := false, h := false, c := true })

/-- `CCF` (R191): C inverted, N = H = 0, Z kept. -/
def complementCarry (s : State) : Result :=
  retire 1 4 (s.setFlags { z := s.flags.z, n := false, h := false, c := !s.flags.c })

/-! ## The instructions -/

/-- `INC B` (R184). -/
def exec_inc_b (s : State) : Result := incLoc (.reg .b) s

/-- `DEC B` (R186). -/
def exec_dec_b (s : State) : Result := decLoc (.reg .b) s

/-- `INC C` (R184). -/
def exec_inc_c (s : State) : Result := incLoc (.reg .c) s

/-- `DEC C` (R186). -/
def exec_dec_c (s : State) : Result := decLoc (.reg .c) s

/-- `INC D` (R184). -/
def exec_inc_d (s : State) : Result := incLoc (.reg .d) s

/-- `DEC D` (R186). -/
def exec_dec_d (s : State) : Result := decLoc (.reg .d) s

/-- `INC E` (R184). -/
def exec_inc_e (s : State) : Result := incLoc (.reg .e) s

/-- `DEC E` (R186). -/
def exec_dec_e (s : State) : Result := decLoc (.reg .e) s

/-- `INC H` (R184). -/
def exec_inc_h (s : State) : Result := incLoc (.reg .h) s

/-- `DEC H` (R186). -/
def exec_dec_h (s : State) : Result := decLoc (.reg .h) s

/-- `DAA` (R188). -/
def exec_daa (s : State) : Result := decimalAdjust s

/-- `INC L` (R184). -/
def exec_inc_l (s : State) : Result := incLoc (.reg .l) s

/-- `DEC L` (R186). -/
def exec_dec_l (s : State) : Result := decLoc (.reg .l) s

/-- `CPL` (R189). -/
def exec_cpl (s : State) : Result := complementA s

/-- `INC (HL)` (R185). -/
def exec_inc_at_hl (s : State) : Result := incLoc .atHl s

/-- `DEC (HL)` (R187). -/
def exec_dec_at_hl (s : State) : Result := decLoc .atHl s

/-- `SCF` (R190). -/
def exec_scf (s : State) : Result := setCarry s

/-- `INC A` (R184). -/
def exec_inc_a (s : State) : Result := incLoc (.reg .a) s

/-- `DEC A` (R186). -/
def exec_dec_a (s : State) : Result := decLoc (.reg .a) s

/-- `CCF` (R191). -/
def exec_ccf (s : State) : Result := complementCarry s

/-- `ADD A,B` (R160). -/
def exec_add_a_b (s : State) : Result := aluAcc .add (.reg .b) s

/-- `ADD A,C` (R160). -/
def exec_add_a_c (s : State) : Result := aluAcc .add (.reg .c) s

/-- `ADD A,D` (R160). -/
def exec_add_a_d (s : State) : Result := aluAcc .add (.reg .d) s

/-- `ADD A,E` (R160). -/
def exec_add_a_e (s : State) : Result := aluAcc .add (.reg .e) s

/-- `ADD A,H` (R160). -/
def exec_add_a_h (s : State) : Result := aluAcc .add (.reg .h) s

/-- `ADD A,L` (R160). -/
def exec_add_a_l (s : State) : Result := aluAcc .add (.reg .l) s

/-- `ADD A,(HL)` (R161). -/
def exec_add_a_at_hl (s : State) : Result := aluAcc .add .atHl s

/-- `ADD A,A` (R160). -/
def exec_add_a_a (s : State) : Result := aluAcc .add (.reg .a) s

/-- `ADC A,B` (R163). -/
def exec_adc_a_b (s : State) : Result := aluAcc .adc (.reg .b) s

/-- `ADC A,C` (R163). -/
def exec_adc_a_c (s : State) : Result := aluAcc .adc (.reg .c) s

/-- `ADC A,D` (R163). -/
def exec_adc_a_d (s : State) : Result := aluAcc .adc (.reg .d) s

/-- `ADC A,E` (R163). -/
def exec_adc_a_e (s : State) : Result := aluAcc .adc (.reg .e) s

/-- `ADC A,H` (R163). -/
def exec_adc_a_h (s : State) : Result := aluAcc .adc (.reg .h) s

/-- `ADC A,L` (R163). -/
def exec_adc_a_l (s : State) : Result := aluAcc .adc (.reg .l) s

/-- `ADC A,(HL)` (R164). -/
def exec_adc_a_at_hl (s : State) : Result := aluAcc .adc .atHl s

/-- `ADC A,A` (R163). -/
def exec_adc_a_a (s : State) : Result := aluAcc .adc (.reg .a) s

/-- `SUB B` (R166). -/
def exec_sub_b (s : State) : Result := aluAcc .sub (.reg .b) s

/-- `SUB C` (R166). -/
def exec_sub_c (s : State) : Result := aluAcc .sub (.reg .c) s

/-- `SUB D` (R166). -/
def exec_sub_d (s : State) : Result := aluAcc .sub (.reg .d) s

/-- `SUB E` (R166). -/
def exec_sub_e (s : State) : Result := aluAcc .sub (.reg .e) s

/-- `SUB H` (R166). -/
def exec_sub_h (s : State) : Result := aluAcc .sub (.reg .h) s

/-- `SUB L` (R166). -/
def exec_sub_l (s : State) : Result := aluAcc .sub (.reg .l) s

/-- `SUB (HL)` (R167). -/
def exec_sub_at_hl (s : State) : Result := aluAcc .sub .atHl s

/-- `SUB A` (R166). -/
def exec_sub_a (s : State) : Result := aluAcc .sub (.reg .a) s

/-- `SBC A,B` (R169). -/
def exec_sbc_a_b (s : State) : Result := aluAcc .sbc (.reg .b) s

/-- `SBC A,C` (R169). -/
def exec_sbc_a_c (s : State) : Result := aluAcc .sbc (.reg .c) s

/-- `SBC A,D` (R169). -/
def exec_sbc_a_d (s : State) : Result := aluAcc .sbc (.reg .d) s

/-- `SBC A,E` (R169). -/
def exec_sbc_a_e (s : State) : Result := aluAcc .sbc (.reg .e) s

/-- `SBC A,H` (R169). -/
def exec_sbc_a_h (s : State) : Result := aluAcc .sbc (.reg .h) s

/-- `SBC A,L` (R169). -/
def exec_sbc_a_l (s : State) : Result := aluAcc .sbc (.reg .l) s

/-- `SBC A,(HL)` (R170). -/
def exec_sbc_a_at_hl (s : State) : Result := aluAcc .sbc .atHl s

/-- `SBC A,A` (R169). -/
def exec_sbc_a_a (s : State) : Result := aluAcc .sbc (.reg .a) s

/-- `AND B` (R172). -/
def exec_and_b (s : State) : Result := aluAcc .and (.reg .b) s

/-- `AND C` (R172). -/
def exec_and_c (s : State) : Result := aluAcc .and (.reg .c) s

/-- `AND D` (R172). -/
def exec_and_d (s : State) : Result := aluAcc .and (.reg .d) s

/-- `AND E` (R172). -/
def exec_and_e (s : State) : Result := aluAcc .and (.reg .e) s

/-- `AND H` (R172). -/
def exec_and_h (s : State) : Result := aluAcc .and (.reg .h) s

/-- `AND L` (R172). -/
def exec_and_l (s : State) : Result := aluAcc .and (.reg .l) s

/-- `AND (HL)` (R173). -/
def exec_and_at_hl (s : State) : Result := aluAcc .and .atHl s

/-- `AND A` (R172). -/
def exec_and_a (s : State) : Result := aluAcc .and (.reg .a) s

/-- `XOR B` (R175). -/
def exec_xor_b (s : State) : Result := aluAcc .xor (.reg .b) s

/-- `XOR C` (R175). -/
def exec_xor_c (s : State) : Result := aluAcc .xor (.reg .c) s

/-- `XOR D` (R175). -/
def exec_xor_d (s : State) : Result := aluAcc .xor (.reg .d) s

/-- `XOR E` (R175). -/
def exec_xor_e (s : State) : Result := aluAcc .xor (.reg .e) s

/-- `XOR H` (R175). -/
def exec_xor_h (s : State) : Result := aluAcc .xor (.reg .h) s

/-- `XOR L` (R175). -/
def exec_xor_l (s : State) : Result := aluAcc .xor (.reg .l) s

/-- `XOR (HL)` (R176). -/
def exec_xor_at_hl (s : State) : Result := aluAcc .xor .atHl s

/-- `XOR A` (R175). -/
def exec_xor_a (s : State) : Result := aluAcc .xor (.reg .a) s

/-- `OR B` (R178). -/
def exec_or_b (s : State) : Result := aluAcc .or (.reg .b) s

/-- `OR C` (R178). -/
def exec_or_c (s : State) : Result := aluAcc .or (.reg .c) s

/-- `OR D` (R178). -/
def exec_or_d (s : State) : Result := aluAcc .or (.reg .d) s

/-- `OR E` (R178). -/
def exec_or_e (s : State) : Result := aluAcc .or (.reg .e) s

/-- `OR H` (R178). -/
def exec_or_h (s : State) : Result := aluAcc .or (.reg .h) s

/-- `OR L` (R178). -/
def exec_or_l (s : State) : Result := aluAcc .or (.reg .l) s

/-- `OR (HL)` (R179). -/
def exec_or_at_hl (s : State) : Result := aluAcc .or .atHl s

/-- `OR A` (R178). -/
def exec_or_a (s : State) : Result := aluAcc .or (.reg .a) s

/-- `CP B` (R181). -/
def exec_cp_b (s : State) : Result := aluAcc .cp (.reg .b) s

/-- `CP C` (R181). -/
def exec_cp_c (s : State) : Result := aluAcc .cp (.reg .c) s

/-- `CP D` (R181). -/
def exec_cp_d (s : State) : Result := aluAcc .cp (.reg .d) s

/-- `CP E` (R181). -/
def exec_cp_e (s : State) : Result := aluAcc .cp (.reg .e) s

/-- `CP H` (R181). -/
def exec_cp_h (s : State) : Result := aluAcc .cp (.reg .h) s

/-- `CP L` (R181). -/
def exec_cp_l (s : State) : Result := aluAcc .cp (.reg .l) s

/-- `CP (HL)` (R182). -/
def exec_cp_at_hl (s : State) : Result := aluAcc .cp .atHl s

/-- `CP A` (R181). -/
def exec_cp_a (s : State) : Result := aluAcc .cp (.reg .a) s

/-- `ADD A,n` (R162). -/
def exec_add_a_n (n : Byte) (s : State) : Result := aluAcc .add (.imm n) s

/-- `ADC A,n` (R165). -/
def exec_adc_a_n (n : Byte) (s : State) : Result := aluAcc .adc (.imm n) s

/-- `SUB n` (R168). -/
def exec_sub_n (n : Byte) (s : State) : Result := aluAcc .sub (.imm n) s

/-- `SBC A,n` (R171). -/
def exec_sbc_a_n (n : Byte) (s : State) : Result := aluAcc .sbc (.imm n) s

/-- `AND n` (R174). -/
def exec_and_n (n : Byte) (s : State) : Result := aluAcc .and (.imm n) s

/-- `XOR n` (R177). -/
def exec_xor_n (n : Byte) (s : State) : Result := aluAcc .xor (.imm n) s

/-- `OR n` (R180). -/
def exec_or_n (n : Byte) (s : State) : Result := aluAcc .or (.imm n) s

/-- `CP n` (R183). -/
def exec_cp_n (n : Byte) (s : State) : Result := aluAcc .cp (.imm n) s

end Sys2Proof.Machine
end

