-- ==== Sys2Proof/Machine/Control.lean ====
section
/-! DEFINITION. Control transfer (46_control.md R250 to R262). Every one of these writes PC itself (R85);
none writes a flag. The operand bytes were read before the push (R53, R256). -/

namespace Sys2Proof.Machine

/-! ## Shared operations -/

/-- `JP nn` (R251), `JP HL` (R253). -/
def jump (target : Word) (ticks : Nat) (s : State) : Result :=
  redirect target ticks s

/-- `JP cc,nn` (R252). -/
def jumpIf (cc : Cond) (nn : Word) (s : State) : Result :=
  if cc.holds s then redirect nn 16 s else redirect (s.following 3) 12 s

/-- `JR e` (R254). -/
def jumpRelative (e : Byte) (s : State) : Result :=
  redirect (s.relativeTarget e) 12 s

/-- `JR cc,e` (R255). -/
def jumpRelativeIf (cc : Cond) (e : Byte) (s : State) : Result :=
  if cc.holds s then redirect (s.relativeTarget e) 12 s else redirect (s.following 2) 8 s

/-- `CALL nn` (R256). -/
def callTo (nn : Word) (s : State) : Result :=
  redirect nn 24 (s.push16 (s.following 3))

/-- `CALL cc,nn` (R257): not taken, no access and SP kept. -/
def callIf (cc : Cond) (nn : Word) (s : State) : Result :=
  if cc.holds s then redirect nn 24 (s.push16 (s.following 3)) else redirect (s.following 3) 12 s

/-- `RET` (R258). -/
def returnTo (s : State) : Result :=
  redirect s.popValue 16 s.popDone

/-- `RET cc` (R259): not taken, no access and SP kept. -/
def returnIf (cc : Cond) (s : State) : Result :=
  if cc.holds s then redirect s.popValue 20 s.popDone else redirect (s.following 1) 8 s

/-- `RETI` (R260): the return from an interrupt, which writes PC itself. -/
def returnAndEnable (s : State) : Result :=
  .next (s.returnFromInterrupt.addTicks 16)

/-- `RST t` (R261). -/
def restart (y : Oct) (s : State) : Result :=
  redirect y.restart 16 (s.push16 (s.following 1))

/-! ## The instructions -/

/-- `JR e` (R254). -/
def exec_jr_e (e : Byte) (s : State) : Result := jumpRelative e s

/-- `JR NZ,e` (R255). -/
def exec_jr_nz_e (e : Byte) (s : State) : Result := jumpRelativeIf .nz e s

/-- `JR Z,e` (R255). -/
def exec_jr_z_e (e : Byte) (s : State) : Result := jumpRelativeIf .z e s

/-- `JR NC,e` (R255). -/
def exec_jr_nc_e (e : Byte) (s : State) : Result := jumpRelativeIf .nc e s

/-- `JR C,e` (R255). -/
def exec_jr_c_e (e : Byte) (s : State) : Result := jumpRelativeIf .c e s

/-- `RET NZ` (R259). -/
def exec_ret_nz (s : State) : Result := returnIf .nz s

/-- `JP NZ,nn` (R252). -/
def exec_jp_nz_nn (nn : Word) (s : State) : Result := jumpIf .nz nn s

/-- `JP nn` (R251). -/
def exec_jp_nn (nn : Word) (s : State) : Result := jump nn 16 s

/-- `CALL NZ,nn` (R257). -/
def exec_call_nz_nn (nn : Word) (s : State) : Result := callIf .nz nn s

/-- `RST 00H` (R261). -/
def exec_rst_00 (s : State) : Result := restart .o0 s

/-- `RET Z` (R259). -/
def exec_ret_z (s : State) : Result := returnIf .z s

/-- `RET` (R258). -/
def exec_ret (s : State) : Result := returnTo s

/-- `JP Z,nn` (R252). -/
def exec_jp_z_nn (nn : Word) (s : State) : Result := jumpIf .z nn s

/-- `CALL Z,nn` (R257). -/
def exec_call_z_nn (nn : Word) (s : State) : Result := callIf .z nn s

/-- `CALL nn` (R256). -/
def exec_call_nn (nn : Word) (s : State) : Result := callTo nn s

/-- `RST 08H` (R261). -/
def exec_rst_08 (s : State) : Result := restart .o1 s

/-- `RET NC` (R259). -/
def exec_ret_nc (s : State) : Result := returnIf .nc s

/-- `JP NC,nn` (R252). -/
def exec_jp_nc_nn (nn : Word) (s : State) : Result := jumpIf .nc nn s

/-- `CALL NC,nn` (R257). -/
def exec_call_nc_nn (nn : Word) (s : State) : Result := callIf .nc nn s

/-- `RST 10H` (R261). -/
def exec_rst_10 (s : State) : Result := restart .o2 s

/-- `RET C` (R259). -/
def exec_ret_c (s : State) : Result := returnIf .c s

/-- `RETI` (R260). -/
def exec_reti (s : State) : Result := returnAndEnable s

/-- `JP C,nn` (R252). -/
def exec_jp_c_nn (nn : Word) (s : State) : Result := jumpIf .c nn s

/-- `CALL C,nn` (R257). -/
def exec_call_c_nn (nn : Word) (s : State) : Result := callIf .c nn s

/-- `RST 18H` (R261). -/
def exec_rst_18 (s : State) : Result := restart .o3 s

/-- `RST 20H` (R261). -/
def exec_rst_20 (s : State) : Result := restart .o4 s

/-- `JP HL` (R253). -/
def exec_jp_hl (s : State) : Result := jump s.hl 4 s

/-- `RST 28H` (R261). -/
def exec_rst_28 (s : State) : Result := restart .o5 s

/-- `RST 30H` (R261). -/
def exec_rst_30 (s : State) : Result := restart .o6 s

/-- `RST 38H` (R261). -/
def exec_rst_38 (s : State) : Result := restart .o7 s

end Sys2Proof.Machine
end

