-- ==== Sys2Proof/Machine/Loads16.lean ====
section
/-! DEFINITION. The 16-bit loads and the stack instructions (42_loads16_stack.md R130 to R138). -/

namespace Sys2Proof.Machine

/-! ## Shared operations -/

/-- `LD rr,nn` (R132). -/
def loadWideImm (rr : WideReg) (nn : Word) (s : State) : Result :=
  retire 3 12 (s.setWide rr nn)

/-- `LD (nn),SP` (R133). -/
def storeSp (nn : Word) (s : State) : Result :=
  retire 3 20 (s.write16 nn s.sp)

/-- `LD SP,HL` (R134). -/
def loadSpHl (s : State) : Result :=
  retire 1 8 (s.setSp s.hl)

/-- `LD HL,SP+e` (R135): the sum of `AddSP` (R200) to HL, its flags to F; SP is kept. -/
def loadHlSpOffset (e : Byte) (s : State) : Result :=
  retire 2 12 ((s.setPair .hl (addSp s.sp e).1).setFlags (addSp s.sp e).2)

/-- `PUSH rr` (R136). -/
def pushPair (p : Pair) (s : State) : Result :=
  retire 1 16 (s.push16 (s.pair p))

/-- `POP rr` (R137) and `POP AF` (R138), which drops bits 3:0 of the byte popped to F (R15, D35, R322). -/
def popPair (p : Pair) (s : State) : Result :=
  retire 1 12 (s.popDone.setPair p s.popValue)

/-! ## The instructions -/

/-- `LD BC,nn` (R132). -/
def exec_ld_bc_nn (nn : Word) (s : State) : Result := loadWideImm .bc nn s

/-- `LD (nn),SP` (R133). -/
def exec_ld_at_nn_sp (nn : Word) (s : State) : Result := storeSp nn s

/-- `LD DE,nn` (R132). -/
def exec_ld_de_nn (nn : Word) (s : State) : Result := loadWideImm .de nn s

/-- `LD HL,nn` (R132). -/
def exec_ld_hl_nn (nn : Word) (s : State) : Result := loadWideImm .hl nn s

/-- `LD SP,nn` (R132). -/
def exec_ld_sp_nn (nn : Word) (s : State) : Result := loadWideImm .sp nn s

/-- `POP BC` (R137). -/
def exec_pop_bc (s : State) : Result := popPair .bc s

/-- `PUSH BC` (R136). -/
def exec_push_bc (s : State) : Result := pushPair .bc s

/-- `POP DE` (R137). -/
def exec_pop_de (s : State) : Result := popPair .de s

/-- `PUSH DE` (R136). -/
def exec_push_de (s : State) : Result := pushPair .de s

/-- `POP HL` (R137). -/
def exec_pop_hl (s : State) : Result := popPair .hl s

/-- `PUSH HL` (R136). -/
def exec_push_hl (s : State) : Result := pushPair .hl s

/-- `POP AF` (R138). -/
def exec_pop_af (s : State) : Result := popPair .af s

/-- `PUSH AF` (R136). -/
def exec_push_af (s : State) : Result := pushPair .af s

/-- `LD HL,SP+e` (R135). -/
def exec_ld_hl_sp_e (e : Byte) (s : State) : Result := loadHlSpOffset e s

/-- `LD SP,HL` (R134). -/
def exec_ld_sp_hl (s : State) : Result := loadSpHl s

end Sys2Proof.Machine
end

