-- ==== Sys2Proof/Machine/Loads8.lean ====
section
/-! DEFINITION. The 8-bit loads and stores (41_loads8.md R100 to R118). None writes a flag. -/

namespace Sys2Proof.Machine

/-! ## Shared operations -/

/-- `LD r,r'` (R100), `LD r,n` (R101), `LD r,(HL)` (R102): the source, read through the old HL, to r. -/
def loadReg (dst : OpReg) (src : Src8) (s : State) : Result :=
  retire src.length src.ticks (s.setReg dst.reg (src.value s))

/-- `LD (HL),r` (R103): also with r = H or L, a half of the address itself. -/
def storeRegAtHl (r : OpReg) (s : State) : Result :=
  retire 1 8 (s.write8 s.hl (s.reg r.reg))

/-- `LD (HL),n` (R104). -/
def storeImmAtHl (n : Byte) (s : State) : Result :=
  retire 2 12 (s.write8 s.hl n)

/-- A load of A from an address (R105, R106, R109, R111, R113). -/
def loadA (addr : Word) (length ticks : Nat) (s : State) : Result :=
  retire length ticks (s.setReg .a (s.read8 addr))

/-- A store of A to an address (R107, R108, R110, R112, R114). -/
def storeA (addr : Word) (length ticks : Nat) (s : State) : Result :=
  retire length ticks (s.write8 addr (s.reg .a))

/-- `LD A,(HL+)`, `LD A,(HL-)` (R116, R118): the access uses HL before it changes by `step` modulo 2^16. -/
def loadAStepping (step : Word) (s : State) : Result :=
  retire 1 8 ((s.setReg .a (s.read8 s.hl)).setPair .hl (s.hl + step))

/-- `LD (HL+),A`, `LD (HL-),A` (R115, R117): the access uses HL before it changes by `step` modulo 2^16. -/
def storeAStepping (step : Word) (s : State) : Result :=
  retire 1 8 ((s.write8 s.hl (s.reg .a)).setPair .hl (s.hl + step))

/-! ## The instructions -/

/-- `LD (BC),A` (R107). -/
def exec_ld_at_bc_a (s : State) : Result := storeA (s.pair .bc) 1 8 s

/-- `LD B,n` (R101). -/
def exec_ld_b_n (n : Byte) (s : State) : Result := loadReg .b (.imm n) s

/-- `LD A,(BC)` (R105). -/
def exec_ld_a_at_bc (s : State) : Result := loadA (s.pair .bc) 1 8 s

/-- `LD C,n` (R101). -/
def exec_ld_c_n (n : Byte) (s : State) : Result := loadReg .c (.imm n) s

/-- `LD (DE),A` (R108). -/
def exec_ld_at_de_a (s : State) : Result := storeA (s.pair .de) 1 8 s

/-- `LD D,n` (R101). -/
def exec_ld_d_n (n : Byte) (s : State) : Result := loadReg .d (.imm n) s

/-- `LD A,(DE)` (R106). -/
def exec_ld_a_at_de (s : State) : Result := loadA (s.pair .de) 1 8 s

/-- `LD E,n` (R101). -/
def exec_ld_e_n (n : Byte) (s : State) : Result := loadReg .e (.imm n) s

/-- `LD (HL+),A` (R115). -/
def exec_ld_at_hli_a (s : State) : Result := storeAStepping 1 s

/-- `LD H,n` (R101). -/
def exec_ld_h_n (n : Byte) (s : State) : Result := loadReg .h (.imm n) s

/-- `LD A,(HL+)` (R116). -/
def exec_ld_a_at_hli (s : State) : Result := loadAStepping 1 s

/-- `LD L,n` (R101). -/
def exec_ld_l_n (n : Byte) (s : State) : Result := loadReg .l (.imm n) s

/-- `LD (HL-),A` (R117). -/
def exec_ld_at_hld_a (s : State) : Result := storeAStepping (-1) s

/-- `LD (HL),n` (R104). -/
def exec_ld_at_hl_n (n : Byte) (s : State) : Result := storeImmAtHl n s

/-- `LD A,(HL-)` (R118). -/
def exec_ld_a_at_hld (s : State) : Result := loadAStepping (-1) s

/-- `LD A,n` (R101). -/
def exec_ld_a_n (n : Byte) (s : State) : Result := loadReg .a (.imm n) s

/-- `LD B,B` (R100). -/
def exec_ld_b_b (s : State) : Result := loadReg .b (.reg .b) s

/-- `LD B,C` (R100). -/
def exec_ld_b_c (s : State) : Result := loadReg .b (.reg .c) s

/-- `LD B,D` (R100). -/
def exec_ld_b_d (s : State) : Result := loadReg .b (.reg .d) s

/-- `LD B,E` (R100). -/
def exec_ld_b_e (s : State) : Result := loadReg .b (.reg .e) s

/-- `LD B,H` (R100). -/
def exec_ld_b_h (s : State) : Result := loadReg .b (.reg .h) s

/-- `LD B,L` (R100). -/
def exec_ld_b_l (s : State) : Result := loadReg .b (.reg .l) s

/-- `LD B,(HL)` (R102). -/
def exec_ld_b_at_hl (s : State) : Result := loadReg .b .atHl s

/-- `LD B,A` (R100). -/
def exec_ld_b_a (s : State) : Result := loadReg .b (.reg .a) s

/-- `LD C,B` (R100). -/
def exec_ld_c_b (s : State) : Result := loadReg .c (.reg .b) s

/-- `LD C,C` (R100). -/
def exec_ld_c_c (s : State) : Result := loadReg .c (.reg .c) s

/-- `LD C,D` (R100). -/
def exec_ld_c_d (s : State) : Result := loadReg .c (.reg .d) s

/-- `LD C,E` (R100). -/
def exec_ld_c_e (s : State) : Result := loadReg .c (.reg .e) s

/-- `LD C,H` (R100). -/
def exec_ld_c_h (s : State) : Result := loadReg .c (.reg .h) s

/-- `LD C,L` (R100). -/
def exec_ld_c_l (s : State) : Result := loadReg .c (.reg .l) s

/-- `LD C,(HL)` (R102). -/
def exec_ld_c_at_hl (s : State) : Result := loadReg .c .atHl s

/-- `LD C,A` (R100). -/
def exec_ld_c_a (s : State) : Result := loadReg .c (.reg .a) s

/-- `LD D,B` (R100). -/
def exec_ld_d_b (s : State) : Result := loadReg .d (.reg .b) s

/-- `LD D,C` (R100). -/
def exec_ld_d_c (s : State) : Result := loadReg .d (.reg .c) s

/-- `LD D,D` (R100). -/
def exec_ld_d_d (s : State) : Result := loadReg .d (.reg .d) s

/-- `LD D,E` (R100). -/
def exec_ld_d_e (s : State) : Result := loadReg .d (.reg .e) s

/-- `LD D,H` (R100). -/
def exec_ld_d_h (s : State) : Result := loadReg .d (.reg .h) s

/-- `LD D,L` (R100). -/
def exec_ld_d_l (s : State) : Result := loadReg .d (.reg .l) s

/-- `LD D,(HL)` (R102). -/
def exec_ld_d_at_hl (s : State) : Result := loadReg .d .atHl s

/-- `LD D,A` (R100). -/
def exec_ld_d_a (s : State) : Result := loadReg .d (.reg .a) s

/-- `LD E,B` (R100). -/
def exec_ld_e_b (s : State) : Result := loadReg .e (.reg .b) s

/-- `LD E,C` (R100). -/
def exec_ld_e_c (s : State) : Result := loadReg .e (.reg .c) s

/-- `LD E,D` (R100). -/
def exec_ld_e_d (s : State) : Result := loadReg .e (.reg .d) s

/-- `LD E,E` (R100). -/
def exec_ld_e_e (s : State) : Result := loadReg .e (.reg .e) s

/-- `LD E,H` (R100). -/
def exec_ld_e_h (s : State) : Result := loadReg .e (.reg .h) s

/-- `LD E,L` (R100). -/
def exec_ld_e_l (s : State) : Result := loadReg .e (.reg .l) s

/-- `LD E,(HL)` (R102). -/
def exec_ld_e_at_hl (s : State) : Result := loadReg .e .atHl s

/-- `LD E,A` (R100). -/
def exec_ld_e_a (s : State) : Result := loadReg .e (.reg .a) s

/-- `LD H,B` (R100). -/
def exec_ld_h_b (s : State) : Result := loadReg .h (.reg .b) s

/-- `LD H,C` (R100). -/
def exec_ld_h_c (s : State) : Result := loadReg .h (.reg .c) s

/-- `LD H,D` (R100). -/
def exec_ld_h_d (s : State) : Result := loadReg .h (.reg .d) s

/-- `LD H,E` (R100). -/
def exec_ld_h_e (s : State) : Result := loadReg .h (.reg .e) s

/-- `LD H,H` (R100). -/
def exec_ld_h_h (s : State) : Result := loadReg .h (.reg .h) s

/-- `LD H,L` (R100). -/
def exec_ld_h_l (s : State) : Result := loadReg .h (.reg .l) s

/-- `LD H,(HL)` (R102). -/
def exec_ld_h_at_hl (s : State) : Result := loadReg .h .atHl s

/-- `LD H,A` (R100). -/
def exec_ld_h_a (s : State) : Result := loadReg .h (.reg .a) s

/-- `LD L,B` (R100). -/
def exec_ld_l_b (s : State) : Result := loadReg .l (.reg .b) s

/-- `LD L,C` (R100). -/
def exec_ld_l_c (s : State) : Result := loadReg .l (.reg .c) s

/-- `LD L,D` (R100). -/
def exec_ld_l_d (s : State) : Result := loadReg .l (.reg .d) s

/-- `LD L,E` (R100). -/
def exec_ld_l_e (s : State) : Result := loadReg .l (.reg .e) s

/-- `LD L,H` (R100). -/
def exec_ld_l_h (s : State) : Result := loadReg .l (.reg .h) s

/-- `LD L,L` (R100). -/
def exec_ld_l_l (s : State) : Result := loadReg .l (.reg .l) s

/-- `LD L,(HL)` (R102). -/
def exec_ld_l_at_hl (s : State) : Result := loadReg .l .atHl s

/-- `LD L,A` (R100). -/
def exec_ld_l_a (s : State) : Result := loadReg .l (.reg .a) s

/-- `LD (HL),B` (R103). -/
def exec_ld_at_hl_b (s : State) : Result := storeRegAtHl .b s

/-- `LD (HL),C` (R103). -/
def exec_ld_at_hl_c (s : State) : Result := storeRegAtHl .c s

/-- `LD (HL),D` (R103). -/
def exec_ld_at_hl_d (s : State) : Result := storeRegAtHl .d s

/-- `LD (HL),E` (R103). -/
def exec_ld_at_hl_e (s : State) : Result := storeRegAtHl .e s

/-- `LD (HL),H` (R103). -/
def exec_ld_at_hl_h (s : State) : Result := storeRegAtHl .h s

/-- `LD (HL),L` (R103). -/
def exec_ld_at_hl_l (s : State) : Result := storeRegAtHl .l s

/-- `LD (HL),A` (R103). -/
def exec_ld_at_hl_a (s : State) : Result := storeRegAtHl .a s

/-- `LD A,B` (R100). -/
def exec_ld_a_b (s : State) : Result := loadReg .a (.reg .b) s

/-- `LD A,C` (R100). -/
def exec_ld_a_c (s : State) : Result := loadReg .a (.reg .c) s

/-- `LD A,D` (R100). -/
def exec_ld_a_d (s : State) : Result := loadReg .a (.reg .d) s

/-- `LD A,E` (R100). -/
def exec_ld_a_e (s : State) : Result := loadReg .a (.reg .e) s

/-- `LD A,H` (R100). -/
def exec_ld_a_h (s : State) : Result := loadReg .a (.reg .h) s

/-- `LD A,L` (R100). -/
def exec_ld_a_l (s : State) : Result := loadReg .a (.reg .l) s

/-- `LD A,(HL)` (R102). -/
def exec_ld_a_at_hl (s : State) : Result := loadReg .a .atHl s

/-- `LD A,A` (R100). -/
def exec_ld_a_a (s : State) : Result := loadReg .a (.reg .a) s

/-- `LDH (n),A` (R112). -/
def exec_ldh_at_n_a (n : Byte) (s : State) : Result := storeA (highPageAddr n) 2 12 s

/-- `LDH (C),A` (R114). -/
def exec_ldh_at_c_a (s : State) : Result := storeA (highPageAddr (s.reg .c)) 1 8 s

/-- `LD (nn),A` (R110). -/
def exec_ld_at_nn_a (nn : Word) (s : State) : Result := storeA nn 3 16 s

/-- `LDH A,(n)` (R111). -/
def exec_ldh_a_at_n (n : Byte) (s : State) : Result := loadA (highPageAddr n) 2 12 s

/-- `LDH A,(C)` (R113). -/
def exec_ldh_a_at_c (s : State) : Result := loadA (highPageAddr (s.reg .c)) 1 8 s

/-- `LD A,(nn)` (R109). -/
def exec_ld_a_at_nn (nn : Word) (s : State) : Result := loadA nn 3 16 s

end Sys2Proof.Machine
end

