-- ==== Sys2Proof/Machine/RotateShiftBit.lean ====
section
/-! DEFINITION. Rotates, shifts and bit operations (45_rotate_shift_bit.md R221 to R246). The ticks of the
extended instructions are those of their own step; the prefix step costs 4 more (R84, R320). -/

namespace Sys2Proof.Machine

/-! ## Shared operations -/

/-- `RLCA`, `RLA`, `RRCA`, `RRA` (R221 to R224): the rotate on A, then Z forced to 0. -/
def rotateAcc (op : RotOp) (s : State) : Result :=
  let (r, fl) := op.apply s.flags.c (s.reg .a)
  retire 1 4 ((s.setReg .a r).setFlags { fl with z := false })

/-- The extended rotates and shifts (R225 to R240): one read, one write of the same place. -/
def rotateLoc (op : RotOp) (x : Loc8) (s : State) : Result :=
  let (r, fl) := op.apply s.flags.c (x.value s)
  retire 1 x.modifyTicks ((x.put r s).setFlags fl)

/-- `BIT b,r` (R241), `BIT b,(HL)` (R242): flags only. -/
def testBit (b : Oct) (x : Loc8) (s : State) : Result :=
  retire 1 x.testTicks (s.setFlags (bitTest s.flags b (x.value s)))

/-- `RES b,r` (R243), `RES b,(HL)` (R244): no flag. -/
def resetBit (b : Oct) (x : Loc8) (s : State) : Result :=
  retire 1 x.modifyTicks (x.put (res8 b (x.value s)) s)

/-- `SET b,r` (R245), `SET b,(HL)` (R246): no flag. -/
def setBit (b : Oct) (x : Loc8) (s : State) : Result :=
  retire 1 x.modifyTicks (x.put (set8 b (x.value s)) s)

/-! ## The instructions -/

/-- `RLCA` (R221). -/
def exec_rlca (s : State) : Result := rotateAcc .rlc s

/-- `RRCA` (R223). -/
def exec_rrca (s : State) : Result := rotateAcc .rrc s

/-- `RLA` (R222). -/
def exec_rla (s : State) : Result := rotateAcc .rl s

/-- `RRA` (R224). -/
def exec_rra (s : State) : Result := rotateAcc .rr s

/-- `RLC B` (R225). -/
def exec_rlc_b (s : State) : Result := rotateLoc .rlc (.reg .b) s

/-- `RLC C` (R225). -/
def exec_rlc_c (s : State) : Result := rotateLoc .rlc (.reg .c) s

/-- `RLC D` (R225). -/
def exec_rlc_d (s : State) : Result := rotateLoc .rlc (.reg .d) s

/-- `RLC E` (R225). -/
def exec_rlc_e (s : State) : Result := rotateLoc .rlc (.reg .e) s

/-- `RLC H` (R225). -/
def exec_rlc_h (s : State) : Result := rotateLoc .rlc (.reg .h) s

/-- `RLC L` (R225). -/
def exec_rlc_l (s : State) : Result := rotateLoc .rlc (.reg .l) s

/-- `RLC (HL)` (R226). -/
def exec_rlc_at_hl (s : State) : Result := rotateLoc .rlc .atHl s

/-- `RLC A` (R225). -/
def exec_rlc_a (s : State) : Result := rotateLoc .rlc (.reg .a) s

/-- `RRC B` (R227). -/
def exec_rrc_b (s : State) : Result := rotateLoc .rrc (.reg .b) s

/-- `RRC C` (R227). -/
def exec_rrc_c (s : State) : Result := rotateLoc .rrc (.reg .c) s

/-- `RRC D` (R227). -/
def exec_rrc_d (s : State) : Result := rotateLoc .rrc (.reg .d) s

/-- `RRC E` (R227). -/
def exec_rrc_e (s : State) : Result := rotateLoc .rrc (.reg .e) s

/-- `RRC H` (R227). -/
def exec_rrc_h (s : State) : Result := rotateLoc .rrc (.reg .h) s

/-- `RRC L` (R227). -/
def exec_rrc_l (s : State) : Result := rotateLoc .rrc (.reg .l) s

/-- `RRC (HL)` (R228). -/
def exec_rrc_at_hl (s : State) : Result := rotateLoc .rrc .atHl s

/-- `RRC A` (R227). -/
def exec_rrc_a (s : State) : Result := rotateLoc .rrc (.reg .a) s

/-- `RL B` (R229). -/
def exec_rl_b (s : State) : Result := rotateLoc .rl (.reg .b) s

/-- `RL C` (R229). -/
def exec_rl_c (s : State) : Result := rotateLoc .rl (.reg .c) s

/-- `RL D` (R229). -/
def exec_rl_d (s : State) : Result := rotateLoc .rl (.reg .d) s

/-- `RL E` (R229). -/
def exec_rl_e (s : State) : Result := rotateLoc .rl (.reg .e) s

/-- `RL H` (R229). -/
def exec_rl_h (s : State) : Result := rotateLoc .rl (.reg .h) s

/-- `RL L` (R229). -/
def exec_rl_l (s : State) : Result := rotateLoc .rl (.reg .l) s

/-- `RL (HL)` (R230). -/
def exec_rl_at_hl (s : State) : Result := rotateLoc .rl .atHl s

/-- `RL A` (R229). -/
def exec_rl_a (s : State) : Result := rotateLoc .rl (.reg .a) s

/-- `RR B` (R231). -/
def exec_rr_b (s : State) : Result := rotateLoc .rr (.reg .b) s

/-- `RR C` (R231). -/
def exec_rr_c (s : State) : Result := rotateLoc .rr (.reg .c) s

/-- `RR D` (R231). -/
def exec_rr_d (s : State) : Result := rotateLoc .rr (.reg .d) s

/-- `RR E` (R231). -/
def exec_rr_e (s : State) : Result := rotateLoc .rr (.reg .e) s

/-- `RR H` (R231). -/
def exec_rr_h (s : State) : Result := rotateLoc .rr (.reg .h) s

/-- `RR L` (R231). -/
def exec_rr_l (s : State) : Result := rotateLoc .rr (.reg .l) s

/-- `RR (HL)` (R232). -/
def exec_rr_at_hl (s : State) : Result := rotateLoc .rr .atHl s

/-- `RR A` (R231). -/
def exec_rr_a (s : State) : Result := rotateLoc .rr (.reg .a) s

/-- `SLA B` (R233). -/
def exec_sla_b (s : State) : Result := rotateLoc .sla (.reg .b) s

/-- `SLA C` (R233). -/
def exec_sla_c (s : State) : Result := rotateLoc .sla (.reg .c) s

/-- `SLA D` (R233). -/
def exec_sla_d (s : State) : Result := rotateLoc .sla (.reg .d) s

/-- `SLA E` (R233). -/
def exec_sla_e (s : State) : Result := rotateLoc .sla (.reg .e) s

/-- `SLA H` (R233). -/
def exec_sla_h (s : State) : Result := rotateLoc .sla (.reg .h) s

/-- `SLA L` (R233). -/
def exec_sla_l (s : State) : Result := rotateLoc .sla (.reg .l) s

/-- `SLA (HL)` (R234). -/
def exec_sla_at_hl (s : State) : Result := rotateLoc .sla .atHl s

/-- `SLA A` (R233). -/
def exec_sla_a (s : State) : Result := rotateLoc .sla (.reg .a) s

/-- `SRA B` (R235). -/
def exec_sra_b (s : State) : Result := rotateLoc .sra (.reg .b) s

/-- `SRA C` (R235). -/
def exec_sra_c (s : State) : Result := rotateLoc .sra (.reg .c) s

/-- `SRA D` (R235). -/
def exec_sra_d (s : State) : Result := rotateLoc .sra (.reg .d) s

/-- `SRA E` (R235). -/
def exec_sra_e (s : State) : Result := rotateLoc .sra (.reg .e) s

/-- `SRA H` (R235). -/
def exec_sra_h (s : State) : Result := rotateLoc .sra (.reg .h) s

/-- `SRA L` (R235). -/
def exec_sra_l (s : State) : Result := rotateLoc .sra (.reg .l) s

/-- `SRA (HL)` (R236). -/
def exec_sra_at_hl (s : State) : Result := rotateLoc .sra .atHl s

/-- `SRA A` (R235). -/
def exec_sra_a (s : State) : Result := rotateLoc .sra (.reg .a) s

/-- `SWAP B` (R237). -/
def exec_swap_b (s : State) : Result := rotateLoc .swap (.reg .b) s

/-- `SWAP C` (R237). -/
def exec_swap_c (s : State) : Result := rotateLoc .swap (.reg .c) s

/-- `SWAP D` (R237). -/
def exec_swap_d (s : State) : Result := rotateLoc .swap (.reg .d) s

/-- `SWAP E` (R237). -/
def exec_swap_e (s : State) : Result := rotateLoc .swap (.reg .e) s

/-- `SWAP H` (R237). -/
def exec_swap_h (s : State) : Result := rotateLoc .swap (.reg .h) s

/-- `SWAP L` (R237). -/
def exec_swap_l (s : State) : Result := rotateLoc .swap (.reg .l) s

/-- `SWAP (HL)` (R238). -/
def exec_swap_at_hl (s : State) : Result := rotateLoc .swap .atHl s

/-- `SWAP A` (R237). -/
def exec_swap_a (s : State) : Result := rotateLoc .swap (.reg .a) s

/-- `SRL B` (R239). -/
def exec_srl_b (s : State) : Result := rotateLoc .srl (.reg .b) s

/-- `SRL C` (R239). -/
def exec_srl_c (s : State) : Result := rotateLoc .srl (.reg .c) s

/-- `SRL D` (R239). -/
def exec_srl_d (s : State) : Result := rotateLoc .srl (.reg .d) s

/-- `SRL E` (R239). -/
def exec_srl_e (s : State) : Result := rotateLoc .srl (.reg .e) s

/-- `SRL H` (R239). -/
def exec_srl_h (s : State) : Result := rotateLoc .srl (.reg .h) s

/-- `SRL L` (R239). -/
def exec_srl_l (s : State) : Result := rotateLoc .srl (.reg .l) s

/-- `SRL (HL)` (R240). -/
def exec_srl_at_hl (s : State) : Result := rotateLoc .srl .atHl s

/-- `SRL A` (R239). -/
def exec_srl_a (s : State) : Result := rotateLoc .srl (.reg .a) s

/-- `BIT 0,B` (R241). -/
def exec_bit_0_b (s : State) : Result := testBit .o0 (.reg .b) s

/-- `BIT 0,C` (R241). -/
def exec_bit_0_c (s : State) : Result := testBit .o0 (.reg .c) s

/-- `BIT 0,D` (R241). -/
def exec_bit_0_d (s : State) : Result := testBit .o0 (.reg .d) s

/-- `BIT 0,E` (R241). -/
def exec_bit_0_e (s : State) : Result := testBit .o0 (.reg .e) s

/-- `BIT 0,H` (R241). -/
def exec_bit_0_h (s : State) : Result := testBit .o0 (.reg .h) s

/-- `BIT 0,L` (R241). -/
def exec_bit_0_l (s : State) : Result := testBit .o0 (.reg .l) s

/-- `BIT 0,(HL)` (R242). -/
def exec_bit_0_at_hl (s : State) : Result := testBit .o0 .atHl s

/-- `BIT 0,A` (R241). -/
def exec_bit_0_a (s : State) : Result := testBit .o0 (.reg .a) s

/-- `BIT 1,B` (R241). -/
def exec_bit_1_b (s : State) : Result := testBit .o1 (.reg .b) s

/-- `BIT 1,C` (R241). -/
def exec_bit_1_c (s : State) : Result := testBit .o1 (.reg .c) s

/-- `BIT 1,D` (R241). -/
def exec_bit_1_d (s : State) : Result := testBit .o1 (.reg .d) s

/-- `BIT 1,E` (R241). -/
def exec_bit_1_e (s : State) : Result := testBit .o1 (.reg .e) s

/-- `BIT 1,H` (R241). -/
def exec_bit_1_h (s : State) : Result := testBit .o1 (.reg .h) s

/-- `BIT 1,L` (R241). -/
def exec_bit_1_l (s : State) : Result := testBit .o1 (.reg .l) s

/-- `BIT 1,(HL)` (R242). -/
def exec_bit_1_at_hl (s : State) : Result := testBit .o1 .atHl s

/-- `BIT 1,A` (R241). -/
def exec_bit_1_a (s : State) : Result := testBit .o1 (.reg .a) s

/-- `BIT 2,B` (R241). -/
def exec_bit_2_b (s : State) : Result := testBit .o2 (.reg .b) s

/-- `BIT 2,C` (R241). -/
def exec_bit_2_c (s : State) : Result := testBit .o2 (.reg .c) s

/-- `BIT 2,D` (R241). -/
def exec_bit_2_d (s : State) : Result := testBit .o2 (.reg .d) s

/-- `BIT 2,E` (R241). -/
def exec_bit_2_e (s : State) : Result := testBit .o2 (.reg .e) s

/-- `BIT 2,H` (R241). -/
def exec_bit_2_h (s : State) : Result := testBit .o2 (.reg .h) s

/-- `BIT 2,L` (R241). -/
def exec_bit_2_l (s : State) : Result := testBit .o2 (.reg .l) s

/-- `BIT 2,(HL)` (R242). -/
def exec_bit_2_at_hl (s : State) : Result := testBit .o2 .atHl s

/-- `BIT 2,A` (R241). -/
def exec_bit_2_a (s : State) : Result := testBit .o2 (.reg .a) s

/-- `BIT 3,B` (R241). -/
def exec_bit_3_b (s : State) : Result := testBit .o3 (.reg .b) s

/-- `BIT 3,C` (R241). -/
def exec_bit_3_c (s : State) : Result := testBit .o3 (.reg .c) s

/-- `BIT 3,D` (R241). -/
def exec_bit_3_d (s : State) : Result := testBit .o3 (.reg .d) s

/-- `BIT 3,E` (R241). -/
def exec_bit_3_e (s : State) : Result := testBit .o3 (.reg .e) s

/-- `BIT 3,H` (R241). -/
def exec_bit_3_h (s : State) : Result := testBit .o3 (.reg .h) s

/-- `BIT 3,L` (R241). -/
def exec_bit_3_l (s : State) : Result := testBit .o3 (.reg .l) s

/-- `BIT 3,(HL)` (R242). -/
def exec_bit_3_at_hl (s : State) : Result := testBit .o3 .atHl s

/-- `BIT 3,A` (R241). -/
def exec_bit_3_a (s : State) : Result := testBit .o3 (.reg .a) s

/-- `BIT 4,B` (R241). -/
def exec_bit_4_b (s : State) : Result := testBit .o4 (.reg .b) s

/-- `BIT 4,C` (R241). -/
def exec_bit_4_c (s : State) : Result := testBit .o4 (.reg .c) s

/-- `BIT 4,D` (R241). -/
def exec_bit_4_d (s : State) : Result := testBit .o4 (.reg .d) s

/-- `BIT 4,E` (R241). -/
def exec_bit_4_e (s : State) : Result := testBit .o4 (.reg .e) s

/-- `BIT 4,H` (R241). -/
def exec_bit_4_h (s : State) : Result := testBit .o4 (.reg .h) s

/-- `BIT 4,L` (R241). -/
def exec_bit_4_l (s : State) : Result := testBit .o4 (.reg .l) s

/-- `BIT 4,(HL)` (R242). -/
def exec_bit_4_at_hl (s : State) : Result := testBit .o4 .atHl s

/-- `BIT 4,A` (R241). -/
def exec_bit_4_a (s : State) : Result := testBit .o4 (.reg .a) s

/-- `BIT 5,B` (R241). -/
def exec_bit_5_b (s : State) : Result := testBit .o5 (.reg .b) s

/-- `BIT 5,C` (R241). -/
def exec_bit_5_c (s : State) : Result := testBit .o5 (.reg .c) s

/-- `BIT 5,D` (R241). -/
def exec_bit_5_d (s : State) : Result := testBit .o5 (.reg .d) s

/-- `BIT 5,E` (R241). -/
def exec_bit_5_e (s : State) : Result := testBit .o5 (.reg .e) s

/-- `BIT 5,H` (R241). -/
def exec_bit_5_h (s : State) : Result := testBit .o5 (.reg .h) s

/-- `BIT 5,L` (R241). -/
def exec_bit_5_l (s : State) : Result := testBit .o5 (.reg .l) s

/-- `BIT 5,(HL)` (R242). -/
def exec_bit_5_at_hl (s : State) : Result := testBit .o5 .atHl s

/-- `BIT 5,A` (R241). -/
def exec_bit_5_a (s : State) : Result := testBit .o5 (.reg .a) s

/-- `BIT 6,B` (R241). -/
def exec_bit_6_b (s : State) : Result := testBit .o6 (.reg .b) s

/-- `BIT 6,C` (R241). -/
def exec_bit_6_c (s : State) : Result := testBit .o6 (.reg .c) s

/-- `BIT 6,D` (R241). -/
def exec_bit_6_d (s : State) : Result := testBit .o6 (.reg .d) s

/-- `BIT 6,E` (R241). -/
def exec_bit_6_e (s : State) : Result := testBit .o6 (.reg .e) s

/-- `BIT 6,H` (R241). -/
def exec_bit_6_h (s : State) : Result := testBit .o6 (.reg .h) s

/-- `BIT 6,L` (R241). -/
def exec_bit_6_l (s : State) : Result := testBit .o6 (.reg .l) s

/-- `BIT 6,(HL)` (R242). -/
def exec_bit_6_at_hl (s : State) : Result := testBit .o6 .atHl s

/-- `BIT 6,A` (R241). -/
def exec_bit_6_a (s : State) : Result := testBit .o6 (.reg .a) s

/-- `BIT 7,B` (R241). -/
def exec_bit_7_b (s : State) : Result := testBit .o7 (.reg .b) s

/-- `BIT 7,C` (R241). -/
def exec_bit_7_c (s : State) : Result := testBit .o7 (.reg .c) s

/-- `BIT 7,D` (R241). -/
def exec_bit_7_d (s : State) : Result := testBit .o7 (.reg .d) s

/-- `BIT 7,E` (R241). -/
def exec_bit_7_e (s : State) : Result := testBit .o7 (.reg .e) s

/-- `BIT 7,H` (R241). -/
def exec_bit_7_h (s : State) : Result := testBit .o7 (.reg .h) s

/-- `BIT 7,L` (R241). -/
def exec_bit_7_l (s : State) : Result := testBit .o7 (.reg .l) s

/-- `BIT 7,(HL)` (R242). -/
def exec_bit_7_at_hl (s : State) : Result := testBit .o7 .atHl s

/-- `BIT 7,A` (R241). -/
def exec_bit_7_a (s : State) : Result := testBit .o7 (.reg .a) s

/-- `RES 0,B` (R243). -/
def exec_res_0_b (s : State) : Result := resetBit .o0 (.reg .b) s

/-- `RES 0,C` (R243). -/
def exec_res_0_c (s : State) : Result := resetBit .o0 (.reg .c) s

/-- `RES 0,D` (R243). -/
def exec_res_0_d (s : State) : Result := resetBit .o0 (.reg .d) s

/-- `RES 0,E` (R243). -/
def exec_res_0_e (s : State) : Result := resetBit .o0 (.reg .e) s

/-- `RES 0,H` (R243). -/
def exec_res_0_h (s : State) : Result := resetBit .o0 (.reg .h) s

/-- `RES 0,L` (R243). -/
def exec_res_0_l (s : State) : Result := resetBit .o0 (.reg .l) s

/-- `RES 0,(HL)` (R244). -/
def exec_res_0_at_hl (s : State) : Result := resetBit .o0 .atHl s

/-- `RES 0,A` (R243). -/
def exec_res_0_a (s : State) : Result := resetBit .o0 (.reg .a) s

/-- `RES 1,B` (R243). -/
def exec_res_1_b (s : State) : Result := resetBit .o1 (.reg .b) s

/-- `RES 1,C` (R243). -/
def exec_res_1_c (s : State) : Result := resetBit .o1 (.reg .c) s

/-- `RES 1,D` (R243). -/
def exec_res_1_d (s : State) : Result := resetBit .o1 (.reg .d) s

/-- `RES 1,E` (R243). -/
def exec_res_1_e (s : State) : Result := resetBit .o1 (.reg .e) s

/-- `RES 1,H` (R243). -/
def exec_res_1_h (s : State) : Result := resetBit .o1 (.reg .h) s

/-- `RES 1,L` (R243). -/
def exec_res_1_l (s : State) : Result := resetBit .o1 (.reg .l) s

/-- `RES 1,(HL)` (R244). -/
def exec_res_1_at_hl (s : State) : Result := resetBit .o1 .atHl s

/-- `RES 1,A` (R243). -/
def exec_res_1_a (s : State) : Result := resetBit .o1 (.reg .a) s

/-- `RES 2,B` (R243). -/
def exec_res_2_b (s : State) : Result := resetBit .o2 (.reg .b) s

/-- `RES 2,C` (R243). -/
def exec_res_2_c (s : State) : Result := resetBit .o2 (.reg .c) s

/-- `RES 2,D` (R243). -/
def exec_res_2_d (s : State) : Result := resetBit .o2 (.reg .d) s

/-- `RES 2,E` (R243). -/
def exec_res_2_e (s : State) : Result := resetBit .o2 (.reg .e) s

/-- `RES 2,H` (R243). -/
def exec_res_2_h (s : State) : Result := resetBit .o2 (.reg .h) s

/-- `RES 2,L` (R243). -/
def exec_res_2_l (s : State) : Result := resetBit .o2 (.reg .l) s

/-- `RES 2,(HL)` (R244). -/
def exec_res_2_at_hl (s : State) : Result := resetBit .o2 .atHl s

/-- `RES 2,A` (R243). -/
def exec_res_2_a (s : State) : Result := resetBit .o2 (.reg .a) s

/-- `RES 3,B` (R243). -/
def exec_res_3_b (s : State) : Result := resetBit .o3 (.reg .b) s

/-- `RES 3,C` (R243). -/
def exec_res_3_c (s : State) : Result := resetBit .o3 (.reg .c) s

/-- `RES 3,D` (R243). -/
def exec_res_3_d (s : State) : Result := resetBit .o3 (.reg .d) s

/-- `RES 3,E` (R243). -/
def exec_res_3_e (s : State) : Result := resetBit .o3 (.reg .e) s

/-- `RES 3,H` (R243). -/
def exec_res_3_h (s : State) : Result := resetBit .o3 (.reg .h) s

/-- `RES 3,L` (R243). -/
def exec_res_3_l (s : State) : Result := resetBit .o3 (.reg .l) s

/-- `RES 3,(HL)` (R244). -/
def exec_res_3_at_hl (s : State) : Result := resetBit .o3 .atHl s

/-- `RES 3,A` (R243). -/
def exec_res_3_a (s : State) : Result := resetBit .o3 (.reg .a) s

/-- `RES 4,B` (R243). -/
def exec_res_4_b (s : State) : Result := resetBit .o4 (.reg .b) s

/-- `RES 4,C` (R243). -/
def exec_res_4_c (s : State) : Result := resetBit .o4 (.reg .c) s

/-- `RES 4,D` (R243). -/
def exec_res_4_d (s : State) : Result := resetBit .o4 (.reg .d) s

/-- `RES 4,E` (R243). -/
def exec_res_4_e (s : State) : Result := resetBit .o4 (.reg .e) s

/-- `RES 4,H` (R243). -/
def exec_res_4_h (s : State) : Result := resetBit .o4 (.reg .h) s

/-- `RES 4,L` (R243). -/
def exec_res_4_l (s : State) : Result := resetBit .o4 (.reg .l) s

/-- `RES 4,(HL)` (R244). -/
def exec_res_4_at_hl (s : State) : Result := resetBit .o4 .atHl s

/-- `RES 4,A` (R243). -/
def exec_res_4_a (s : State) : Result := resetBit .o4 (.reg .a) s

/-- `RES 5,B` (R243). -/
def exec_res_5_b (s : State) : Result := resetBit .o5 (.reg .b) s

/-- `RES 5,C` (R243). -/
def exec_res_5_c (s : State) : Result := resetBit .o5 (.reg .c) s

/-- `RES 5,D` (R243). -/
def exec_res_5_d (s : State) : Result := resetBit .o5 (.reg .d) s

/-- `RES 5,E` (R243). -/
def exec_res_5_e (s : State) : Result := resetBit .o5 (.reg .e) s

/-- `RES 5,H` (R243). -/
def exec_res_5_h (s : State) : Result := resetBit .o5 (.reg .h) s

/-- `RES 5,L` (R243). -/
def exec_res_5_l (s : State) : Result := resetBit .o5 (.reg .l) s

/-- `RES 5,(HL)` (R244). -/
def exec_res_5_at_hl (s : State) : Result := resetBit .o5 .atHl s

/-- `RES 5,A` (R243). -/
def exec_res_5_a (s : State) : Result := resetBit .o5 (.reg .a) s

/-- `RES 6,B` (R243). -/
def exec_res_6_b (s : State) : Result := resetBit .o6 (.reg .b) s

/-- `RES 6,C` (R243). -/
def exec_res_6_c (s : State) : Result := resetBit .o6 (.reg .c) s

/-- `RES 6,D` (R243). -/
def exec_res_6_d (s : State) : Result := resetBit .o6 (.reg .d) s

/-- `RES 6,E` (R243). -/
def exec_res_6_e (s : State) : Result := resetBit .o6 (.reg .e) s

/-- `RES 6,H` (R243). -/
def exec_res_6_h (s : State) : Result := resetBit .o6 (.reg .h) s

/-- `RES 6,L` (R243). -/
def exec_res_6_l (s : State) : Result := resetBit .o6 (.reg .l) s

/-- `RES 6,(HL)` (R244). -/
def exec_res_6_at_hl (s : State) : Result := resetBit .o6 .atHl s

/-- `RES 6,A` (R243). -/
def exec_res_6_a (s : State) : Result := resetBit .o6 (.reg .a) s

/-- `RES 7,B` (R243). -/
def exec_res_7_b (s : State) : Result := resetBit .o7 (.reg .b) s

/-- `RES 7,C` (R243). -/
def exec_res_7_c (s : State) : Result := resetBit .o7 (.reg .c) s

/-- `RES 7,D` (R243). -/
def exec_res_7_d (s : State) : Result := resetBit .o7 (.reg .d) s

/-- `RES 7,E` (R243). -/
def exec_res_7_e (s : State) : Result := resetBit .o7 (.reg .e) s

/-- `RES 7,H` (R243). -/
def exec_res_7_h (s : State) : Result := resetBit .o7 (.reg .h) s

/-- `RES 7,L` (R243). -/
def exec_res_7_l (s : State) : Result := resetBit .o7 (.reg .l) s

/-- `RES 7,(HL)` (R244). -/
def exec_res_7_at_hl (s : State) : Result := resetBit .o7 .atHl s

/-- `RES 7,A` (R243). -/
def exec_res_7_a (s : State) : Result := resetBit .o7 (.reg .a) s

/-- `SET 0,B` (R245). -/
def exec_set_0_b (s : State) : Result := setBit .o0 (.reg .b) s

/-- `SET 0,C` (R245). -/
def exec_set_0_c (s : State) : Result := setBit .o0 (.reg .c) s

/-- `SET 0,D` (R245). -/
def exec_set_0_d (s : State) : Result := setBit .o0 (.reg .d) s

/-- `SET 0,E` (R245). -/
def exec_set_0_e (s : State) : Result := setBit .o0 (.reg .e) s

/-- `SET 0,H` (R245). -/
def exec_set_0_h (s : State) : Result := setBit .o0 (.reg .h) s

/-- `SET 0,L` (R245). -/
def exec_set_0_l (s : State) : Result := setBit .o0 (.reg .l) s

/-- `SET 0,(HL)` (R246). -/
def exec_set_0_at_hl (s : State) : Result := setBit .o0 .atHl s

/-- `SET 0,A` (R245). -/
def exec_set_0_a (s : State) : Result := setBit .o0 (.reg .a) s

/-- `SET 1,B` (R245). -/
def exec_set_1_b (s : State) : Result := setBit .o1 (.reg .b) s

/-- `SET 1,C` (R245). -/
def exec_set_1_c (s : State) : Result := setBit .o1 (.reg .c) s

/-- `SET 1,D` (R245). -/
def exec_set_1_d (s : State) : Result := setBit .o1 (.reg .d) s

/-- `SET 1,E` (R245). -/
def exec_set_1_e (s : State) : Result := setBit .o1 (.reg .e) s

/-- `SET 1,H` (R245). -/
def exec_set_1_h (s : State) : Result := setBit .o1 (.reg .h) s

/-- `SET 1,L` (R245). -/
def exec_set_1_l (s : State) : Result := setBit .o1 (.reg .l) s

/-- `SET 1,(HL)` (R246). -/
def exec_set_1_at_hl (s : State) : Result := setBit .o1 .atHl s

/-- `SET 1,A` (R245). -/
def exec_set_1_a (s : State) : Result := setBit .o1 (.reg .a) s

/-- `SET 2,B` (R245). -/
def exec_set_2_b (s : State) : Result := setBit .o2 (.reg .b) s

/-- `SET 2,C` (R245). -/
def exec_set_2_c (s : State) : Result := setBit .o2 (.reg .c) s

/-- `SET 2,D` (R245). -/
def exec_set_2_d (s : State) : Result := setBit .o2 (.reg .d) s

/-- `SET 2,E` (R245). -/
def exec_set_2_e (s : State) : Result := setBit .o2 (.reg .e) s

/-- `SET 2,H` (R245). -/
def exec_set_2_h (s : State) : Result := setBit .o2 (.reg .h) s

/-- `SET 2,L` (R245). -/
def exec_set_2_l (s : State) : Result := setBit .o2 (.reg .l) s

/-- `SET 2,(HL)` (R246). -/
def exec_set_2_at_hl (s : State) : Result := setBit .o2 .atHl s

/-- `SET 2,A` (R245). -/
def exec_set_2_a (s : State) : Result := setBit .o2 (.reg .a) s

/-- `SET 3,B` (R245). -/
def exec_set_3_b (s : State) : Result := setBit .o3 (.reg .b) s

/-- `SET 3,C` (R245). -/
def exec_set_3_c (s : State) : Result := setBit .o3 (.reg .c) s

/-- `SET 3,D` (R245). -/
def exec_set_3_d (s : State) : Result := setBit .o3 (.reg .d) s

/-- `SET 3,E` (R245). -/
def exec_set_3_e (s : State) : Result := setBit .o3 (.reg .e) s

/-- `SET 3,H` (R245). -/
def exec_set_3_h (s : State) : Result := setBit .o3 (.reg .h) s

/-- `SET 3,L` (R245). -/
def exec_set_3_l (s : State) : Result := setBit .o3 (.reg .l) s

/-- `SET 3,(HL)` (R246). -/
def exec_set_3_at_hl (s : State) : Result := setBit .o3 .atHl s

/-- `SET 3,A` (R245). -/
def exec_set_3_a (s : State) : Result := setBit .o3 (.reg .a) s

/-- `SET 4,B` (R245). -/
def exec_set_4_b (s : State) : Result := setBit .o4 (.reg .b) s

/-- `SET 4,C` (R245). -/
def exec_set_4_c (s : State) : Result := setBit .o4 (.reg .c) s

/-- `SET 4,D` (R245). -/
def exec_set_4_d (s : State) : Result := setBit .o4 (.reg .d) s

/-- `SET 4,E` (R245). -/
def exec_set_4_e (s : State) : Result := setBit .o4 (.reg .e) s

/-- `SET 4,H` (R245). -/
def exec_set_4_h (s : State) : Result := setBit .o4 (.reg .h) s

/-- `SET 4,L` (R245). -/
def exec_set_4_l (s : State) : Result := setBit .o4 (.reg .l) s

/-- `SET 4,(HL)` (R246). -/
def exec_set_4_at_hl (s : State) : Result := setBit .o4 .atHl s

/-- `SET 4,A` (R245). -/
def exec_set_4_a (s : State) : Result := setBit .o4 (.reg .a) s

/-- `SET 5,B` (R245). -/
def exec_set_5_b (s : State) : Result := setBit .o5 (.reg .b) s

/-- `SET 5,C` (R245). -/
def exec_set_5_c (s : State) : Result := setBit .o5 (.reg .c) s

/-- `SET 5,D` (R245). -/
def exec_set_5_d (s : State) : Result := setBit .o5 (.reg .d) s

/-- `SET 5,E` (R245). -/
def exec_set_5_e (s : State) : Result := setBit .o5 (.reg .e) s

/-- `SET 5,H` (R245). -/
def exec_set_5_h (s : State) : Result := setBit .o5 (.reg .h) s

/-- `SET 5,L` (R245). -/
def exec_set_5_l (s : State) : Result := setBit .o5 (.reg .l) s

/-- `SET 5,(HL)` (R246). -/
def exec_set_5_at_hl (s : State) : Result := setBit .o5 .atHl s

/-- `SET 5,A` (R245). -/
def exec_set_5_a (s : State) : Result := setBit .o5 (.reg .a) s

/-- `SET 6,B` (R245). -/
def exec_set_6_b (s : State) : Result := setBit .o6 (.reg .b) s

/-- `SET 6,C` (R245). -/
def exec_set_6_c (s : State) : Result := setBit .o6 (.reg .c) s

/-- `SET 6,D` (R245). -/
def exec_set_6_d (s : State) : Result := setBit .o6 (.reg .d) s

/-- `SET 6,E` (R245). -/
def exec_set_6_e (s : State) : Result := setBit .o6 (.reg .e) s

/-- `SET 6,H` (R245). -/
def exec_set_6_h (s : State) : Result := setBit .o6 (.reg .h) s

/-- `SET 6,L` (R245). -/
def exec_set_6_l (s : State) : Result := setBit .o6 (.reg .l) s

/-- `SET 6,(HL)` (R246). -/
def exec_set_6_at_hl (s : State) : Result := setBit .o6 .atHl s

/-- `SET 6,A` (R245). -/
def exec_set_6_a (s : State) : Result := setBit .o6 (.reg .a) s

/-- `SET 7,B` (R245). -/
def exec_set_7_b (s : State) : Result := setBit .o7 (.reg .b) s

/-- `SET 7,C` (R245). -/
def exec_set_7_c (s : State) : Result := setBit .o7 (.reg .c) s

/-- `SET 7,D` (R245). -/
def exec_set_7_d (s : State) : Result := setBit .o7 (.reg .d) s

/-- `SET 7,E` (R245). -/
def exec_set_7_e (s : State) : Result := setBit .o7 (.reg .e) s

/-- `SET 7,H` (R245). -/
def exec_set_7_h (s : State) : Result := setBit .o7 (.reg .h) s

/-- `SET 7,L` (R245). -/
def exec_set_7_l (s : State) : Result := setBit .o7 (.reg .l) s

/-- `SET 7,(HL)` (R246). -/
def exec_set_7_at_hl (s : State) : Result := setBit .o7 .atHl s

/-- `SET 7,A` (R245). -/
def exec_set_7_a (s : State) : Result := setBit .o7 (.reg .a) s

end Sys2Proof.Machine
end

