-- ==== Sys2Proof/Machine/System.lean ====
section
/-! DEFINITION. System instructions, the prefix and the undefined opcodes (47_system.md R270 to R276). -/

namespace Sys2Proof.Machine

/-! ## Shared operations -/

/-- An instruction that only advances PC and reports its ticks (`NOP` R270, `STOP` R272, the undefined
opcodes R276). -/
def noOperation (length : Nat) (s : State) : Result :=
  retire length 4 s

/-- `DI` (R273), `EI` (R274): IME written in the step itself (D6). -/
def writeIme (v : Bool) (s : State) : Result :=
  retire 1 4 (s.setIme v)

/-- `HALT` (R271): the halt flag set, whatever IME, IE and IF hold (D31). -/
def enterHalt (s : State) : Result :=
  retire 1 4 (s.setHalt true)

/-- `PREFIX CB` (R275): dispatcher state ExtendedPending. -/
def enterExtended (s : State) : Result :=
  retire 1 4 (s.setExt true)

/-! ## The instructions -/

/-- `NOP` (R270). -/
def exec_nop (s : State) : Result := noOperation 1 s

/-- `STOP` (R272). -/
def exec_stop (_n : Byte) (s : State) : Result := noOperation 2 s

/-- `HALT` (R271). -/
def exec_halt (s : State) : Result := enterHalt s

/-- `PREFIX CB` (R275). -/
def exec_prefix_cb (s : State) : Result := enterExtended s

/-- `UNDEF_D3` (R276). -/
def exec_undef_d3 (s : State) : Result := noOperation 1 s

/-- `UNDEF_DB` (R276). -/
def exec_undef_db (s : State) : Result := noOperation 1 s

/-- `UNDEF_DD` (R276). -/
def exec_undef_dd (s : State) : Result := noOperation 1 s

/-- `UNDEF_E3` (R276). -/
def exec_undef_e3 (s : State) : Result := noOperation 1 s

/-- `UNDEF_E4` (R276). -/
def exec_undef_e4 (s : State) : Result := noOperation 1 s

/-- `UNDEF_EB` (R276). -/
def exec_undef_eb (s : State) : Result := noOperation 1 s

/-- `UNDEF_EC` (R276). -/
def exec_undef_ec (s : State) : Result := noOperation 1 s

/-- `UNDEF_ED` (R276). -/
def exec_undef_ed (s : State) : Result := noOperation 1 s

/-- `DI` (R273). -/
def exec_di (s : State) : Result := writeIme false s

/-- `UNDEF_F4` (R276). -/
def exec_undef_f4 (s : State) : Result := noOperation 1 s

/-- `EI` (R274). -/
def exec_ei (s : State) : Result := writeIme true s

/-- `UNDEF_FC` (R276). -/
def exec_undef_fc (s : State) : Result := noOperation 1 s

/-- `UNDEF_FD` (R276). -/
def exec_undef_fd (s : State) : Result := noOperation 1 s

end Sys2Proof.Machine
end

