-- ==== Sys2Proof/Syntax.lean ====
section
/-! DEFINITION. The instructions: one constructor per row of spec/opcode_table.json, in the table's order
(30_encoding.md R68, R69) but that the entries with operand bytes stand first. A constructor carries the operand bytes its format has (R61, R67): `n` unsigned,
`e` two's complement, `nn` a little-endian word. Names are the mnemonics in small letters, `(X)` written
`at_x`, `(HL+)` and `(HL-)` written `at_hli` and `at_hld`. -/

namespace Sys2Proof

/-- The 512 entries of the base table and the extended table (R68, R69). -/
inductive Instr
  -- the base table (R68): the entries with operand bytes
  | ld_bc_nn (nn : Word)          -- 0x01 `LD BC,nn`, R132
  | ld_b_n (n : Byte)             -- 0x06 `LD B,n`, R101
  | ld_at_nn_sp (nn : Word)       -- 0x08 `LD (nn),SP`, R133
  | ld_c_n (n : Byte)             -- 0x0E `LD C,n`, R101
  | stop (n : Byte)               -- 0x10 `STOP`, R272
  | ld_de_nn (nn : Word)          -- 0x11 `LD DE,nn`, R132
  | ld_d_n (n : Byte)             -- 0x16 `LD D,n`, R101
  | jr_e (e : Byte)               -- 0x18 `JR e`, R254
  | ld_e_n (n : Byte)             -- 0x1E `LD E,n`, R101
  | jr_nz_e (e : Byte)            -- 0x20 `JR NZ,e`, R255
  | ld_hl_nn (nn : Word)          -- 0x21 `LD HL,nn`, R132
  | ld_h_n (n : Byte)             -- 0x26 `LD H,n`, R101
  | jr_z_e (e : Byte)             -- 0x28 `JR Z,e`, R255
  | ld_l_n (n : Byte)             -- 0x2E `LD L,n`, R101
  | jr_nc_e (e : Byte)            -- 0x30 `JR NC,e`, R255
  | ld_sp_nn (nn : Word)          -- 0x31 `LD SP,nn`, R132
  | ld_at_hl_n (n : Byte)         -- 0x36 `LD (HL),n`, R104
  | jr_c_e (e : Byte)             -- 0x38 `JR C,e`, R255
  | ld_a_n (n : Byte)             -- 0x3E `LD A,n`, R101
  | jp_nz_nn (nn : Word)          -- 0xC2 `JP NZ,nn`, R252
  | jp_nn (nn : Word)             -- 0xC3 `JP nn`, R251
  | call_nz_nn (nn : Word)        -- 0xC4 `CALL NZ,nn`, R257
  | add_a_n (n : Byte)            -- 0xC6 `ADD A,n`, R162
  | jp_z_nn (nn : Word)           -- 0xCA `JP Z,nn`, R252
  | call_z_nn (nn : Word)         -- 0xCC `CALL Z,nn`, R257
  | call_nn (nn : Word)           -- 0xCD `CALL nn`, R256
  | adc_a_n (n : Byte)            -- 0xCE `ADC A,n`, R165
  | jp_nc_nn (nn : Word)          -- 0xD2 `JP NC,nn`, R252
  | call_nc_nn (nn : Word)        -- 0xD4 `CALL NC,nn`, R257
  | sub_n (n : Byte)              -- 0xD6 `SUB n`, R168
  | jp_c_nn (nn : Word)           -- 0xDA `JP C,nn`, R252
  | call_c_nn (nn : Word)         -- 0xDC `CALL C,nn`, R257
  | sbc_a_n (n : Byte)            -- 0xDE `SBC A,n`, R171
  | ldh_at_n_a (n : Byte)         -- 0xE0 `LDH (n),A`, R112
  | and_n (n : Byte)              -- 0xE6 `AND n`, R174
  | add_sp_e (e : Byte)           -- 0xE8 `ADD SP,e`, R204
  | ld_at_nn_a (nn : Word)        -- 0xEA `LD (nn),A`, R110
  | xor_n (n : Byte)              -- 0xEE `XOR n`, R177
  | ldh_a_at_n (n : Byte)         -- 0xF0 `LDH A,(n)`, R111
  | or_n (n : Byte)               -- 0xF6 `OR n`, R180
  | ld_hl_sp_e (e : Byte)         -- 0xF8 `LD HL,SP+e`, R135
  | ld_a_at_nn (nn : Word)        -- 0xFA `LD A,(nn)`, R109
  | cp_n (n : Byte)               -- 0xFE `CP n`, R183
  -- the base table (R68): the entries without
  | nop                           -- 0x00 `NOP`, R270
  | ld_at_bc_a                    -- 0x02 `LD (BC),A`, R107
  | inc_bc                        -- 0x03 `INC BC`, R202
  | inc_b                         -- 0x04 `INC B`, R184
  | dec_b                         -- 0x05 `DEC B`, R186
  | rlca                          -- 0x07 `RLCA`, R221
  | add_hl_bc                     -- 0x09 `ADD HL,BC`, R201
  | ld_a_at_bc                    -- 0x0A `LD A,(BC)`, R105
  | dec_bc                        -- 0x0B `DEC BC`, R203
  | inc_c                         -- 0x0C `INC C`, R184
  | dec_c                         -- 0x0D `DEC C`, R186
  | rrca                          -- 0x0F `RRCA`, R223
  | ld_at_de_a                    -- 0x12 `LD (DE),A`, R108
  | inc_de                        -- 0x13 `INC DE`, R202
  | inc_d                         -- 0x14 `INC D`, R184
  | dec_d                         -- 0x15 `DEC D`, R186
  | rla                           -- 0x17 `RLA`, R222
  | add_hl_de                     -- 0x19 `ADD HL,DE`, R201
  | ld_a_at_de                    -- 0x1A `LD A,(DE)`, R106
  | dec_de                        -- 0x1B `DEC DE`, R203
  | inc_e                         -- 0x1C `INC E`, R184
  | dec_e                         -- 0x1D `DEC E`, R186
  | rra                           -- 0x1F `RRA`, R224
  | ld_at_hli_a                   -- 0x22 `LD (HL+),A`, R115
  | inc_hl                        -- 0x23 `INC HL`, R202
  | inc_h                         -- 0x24 `INC H`, R184
  | dec_h                         -- 0x25 `DEC H`, R186
  | daa                           -- 0x27 `DAA`, R188
  | add_hl_hl                     -- 0x29 `ADD HL,HL`, R201
  | ld_a_at_hli                   -- 0x2A `LD A,(HL+)`, R116
  | dec_hl                        -- 0x2B `DEC HL`, R203
  | inc_l                         -- 0x2C `INC L`, R184
  | dec_l                         -- 0x2D `DEC L`, R186
  | cpl                           -- 0x2F `CPL`, R189
  | ld_at_hld_a                   -- 0x32 `LD (HL-),A`, R117
  | inc_sp                        -- 0x33 `INC SP`, R202
  | inc_at_hl                     -- 0x34 `INC (HL)`, R185
  | dec_at_hl                     -- 0x35 `DEC (HL)`, R187
  | scf                           -- 0x37 `SCF`, R190
  | add_hl_sp                     -- 0x39 `ADD HL,SP`, R201
  | ld_a_at_hld                   -- 0x3A `LD A,(HL-)`, R118
  | dec_sp                        -- 0x3B `DEC SP`, R203
  | inc_a                         -- 0x3C `INC A`, R184
  | dec_a                         -- 0x3D `DEC A`, R186
  | ccf                           -- 0x3F `CCF`, R191
  | ld_b_b                        -- 0x40 `LD B,B`, R100
  | ld_b_c                        -- 0x41 `LD B,C`, R100
  | ld_b_d                        -- 0x42 `LD B,D`, R100
  | ld_b_e                        -- 0x43 `LD B,E`, R100
  | ld_b_h                        -- 0x44 `LD B,H`, R100
  | ld_b_l                        -- 0x45 `LD B,L`, R100
  | ld_b_at_hl                    -- 0x46 `LD B,(HL)`, R102
  | ld_b_a                        -- 0x47 `LD B,A`, R100
  | ld_c_b                        -- 0x48 `LD C,B`, R100
  | ld_c_c                        -- 0x49 `LD C,C`, R100
  | ld_c_d                        -- 0x4A `LD C,D`, R100
  | ld_c_e                        -- 0x4B `LD C,E`, R100
  | ld_c_h                        -- 0x4C `LD C,H`, R100
  | ld_c_l                        -- 0x4D `LD C,L`, R100
  | ld_c_at_hl                    -- 0x4E `LD C,(HL)`, R102
  | ld_c_a                        -- 0x4F `LD C,A`, R100
  | ld_d_b                        -- 0x50 `LD D,B`, R100
  | ld_d_c                        -- 0x51 `LD D,C`, R100
  | ld_d_d                        -- 0x52 `LD D,D`, R100
  | ld_d_e                        -- 0x53 `LD D,E`, R100
  | ld_d_h                        -- 0x54 `LD D,H`, R100
  | ld_d_l                        -- 0x55 `LD D,L`, R100
  | ld_d_at_hl                    -- 0x56 `LD D,(HL)`, R102
  | ld_d_a                        -- 0x57 `LD D,A`, R100
  | ld_e_b                        -- 0x58 `LD E,B`, R100
  | ld_e_c                        -- 0x59 `LD E,C`, R100
  | ld_e_d                        -- 0x5A `LD E,D`, R100
  | ld_e_e                        -- 0x5B `LD E,E`, R100
  | ld_e_h                        -- 0x5C `LD E,H`, R100
  | ld_e_l                        -- 0x5D `LD E,L`, R100
  | ld_e_at_hl                    -- 0x5E `LD E,(HL)`, R102
  | ld_e_a                        -- 0x5F `LD E,A`, R100
  | ld_h_b                        -- 0x60 `LD H,B`, R100
  | ld_h_c                        -- 0x61 `LD H,C`, R100
  | ld_h_d                        -- 0x62 `LD H,D`, R100
  | ld_h_e                        -- 0x63 `LD H,E`, R100
  | ld_h_h                        -- 0x64 `LD H,H`, R100
  | ld_h_l                        -- 0x65 `LD H,L`, R100
  | ld_h_at_hl                    -- 0x66 `LD H,(HL)`, R102
  | ld_h_a                        -- 0x67 `LD H,A`, R100
  | ld_l_b                        -- 0x68 `LD L,B`, R100
  | ld_l_c                        -- 0x69 `LD L,C`, R100
  | ld_l_d                        -- 0x6A `LD L,D`, R100
  | ld_l_e                        -- 0x6B `LD L,E`, R100
  | ld_l_h                        -- 0x6C `LD L,H`, R100
  | ld_l_l                        -- 0x6D `LD L,L`, R100
  | ld_l_at_hl                    -- 0x6E `LD L,(HL)`, R102
  | ld_l_a                        -- 0x6F `LD L,A`, R100
  | ld_at_hl_b                    -- 0x70 `LD (HL),B`, R103
  | ld_at_hl_c                    -- 0x71 `LD (HL),C`, R103
  | ld_at_hl_d                    -- 0x72 `LD (HL),D`, R103
  | ld_at_hl_e                    -- 0x73 `LD (HL),E`, R103
  | ld_at_hl_h                    -- 0x74 `LD (HL),H`, R103
  | ld_at_hl_l                    -- 0x75 `LD (HL),L`, R103
  | halt                          -- 0x76 `HALT`, R271
  | ld_at_hl_a                    -- 0x77 `LD (HL),A`, R103
  | ld_a_b                        -- 0x78 `LD A,B`, R100
  | ld_a_c                        -- 0x79 `LD A,C`, R100
  | ld_a_d                        -- 0x7A `LD A,D`, R100
  | ld_a_e                        -- 0x7B `LD A,E`, R100
  | ld_a_h                        -- 0x7C `LD A,H`, R100
  | ld_a_l                        -- 0x7D `LD A,L`, R100
  | ld_a_at_hl                    -- 0x7E `LD A,(HL)`, R102
  | ld_a_a                        -- 0x7F `LD A,A`, R100
  | add_a_b                       -- 0x80 `ADD A,B`, R160
  | add_a_c                       -- 0x81 `ADD A,C`, R160
  | add_a_d                       -- 0x82 `ADD A,D`, R160
  | add_a_e                       -- 0x83 `ADD A,E`, R160
  | add_a_h                       -- 0x84 `ADD A,H`, R160
  | add_a_l                       -- 0x85 `ADD A,L`, R160
  | add_a_at_hl                   -- 0x86 `ADD A,(HL)`, R161
  | add_a_a                       -- 0x87 `ADD A,A`, R160
  | adc_a_b                       -- 0x88 `ADC A,B`, R163
  | adc_a_c                       -- 0x89 `ADC A,C`, R163
  | adc_a_d                       -- 0x8A `ADC A,D`, R163
  | adc_a_e                       -- 0x8B `ADC A,E`, R163
  | adc_a_h                       -- 0x8C `ADC A,H`, R163
  | adc_a_l                       -- 0x8D `ADC A,L`, R163
  | adc_a_at_hl                   -- 0x8E `ADC A,(HL)`, R164
  | adc_a_a                       -- 0x8F `ADC A,A`, R163
  | sub_b                         -- 0x90 `SUB B`, R166
  | sub_c                         -- 0x91 `SUB C`, R166
  | sub_d                         -- 0x92 `SUB D`, R166
  | sub_e                         -- 0x93 `SUB E`, R166
  | sub_h                         -- 0x94 `SUB H`, R166
  | sub_l                         -- 0x95 `SUB L`, R166
  | sub_at_hl                     -- 0x96 `SUB (HL)`, R167
  | sub_a                         -- 0x97 `SUB A`, R166
  | sbc_a_b                       -- 0x98 `SBC A,B`, R169
  | sbc_a_c                       -- 0x99 `SBC A,C`, R169
  | sbc_a_d                       -- 0x9A `SBC A,D`, R169
  | sbc_a_e                       -- 0x9B `SBC A,E`, R169
  | sbc_a_h                       -- 0x9C `SBC A,H`, R169
  | sbc_a_l                       -- 0x9D `SBC A,L`, R169
  | sbc_a_at_hl                   -- 0x9E `SBC A,(HL)`, R170
  | sbc_a_a                       -- 0x9F `SBC A,A`, R169
  | and_b                         -- 0xA0 `AND B`, R172
  | and_c                         -- 0xA1 `AND C`, R172
  | and_d                         -- 0xA2 `AND D`, R172
  | and_e                         -- 0xA3 `AND E`, R172
  | and_h                         -- 0xA4 `AND H`, R172
  | and_l                         -- 0xA5 `AND L`, R172
  | and_at_hl                     -- 0xA6 `AND (HL)`, R173
  | and_a                         -- 0xA7 `AND A`, R172
  | xor_b                         -- 0xA8 `XOR B`, R175
  | xor_c                         -- 0xA9 `XOR C`, R175
  | xor_d                         -- 0xAA `XOR D`, R175
  | xor_e                         -- 0xAB `XOR E`, R175
  | xor_h                         -- 0xAC `XOR H`, R175
  | xor_l                         -- 0xAD `XOR L`, R175
  | xor_at_hl                     -- 0xAE `XOR (HL)`, R176
  | xor_a                         -- 0xAF `XOR A`, R175
  | or_b                          -- 0xB0 `OR B`, R178
  | or_c                          -- 0xB1 `OR C`, R178
  | or_d                          -- 0xB2 `OR D`, R178
  | or_e                          -- 0xB3 `OR E`, R178
  | or_h                          -- 0xB4 `OR H`, R178
  | or_l                          -- 0xB5 `OR L`, R178
  | or_at_hl                      -- 0xB6 `OR (HL)`, R179
  | or_a                          -- 0xB7 `OR A`, R178
  | cp_b                          -- 0xB8 `CP B`, R181
  | cp_c                          -- 0xB9 `CP C`, R181
  | cp_d                          -- 0xBA `CP D`, R181
  | cp_e                          -- 0xBB `CP E`, R181
  | cp_h                          -- 0xBC `CP H`, R181
  | cp_l                          -- 0xBD `CP L`, R181
  | cp_at_hl                      -- 0xBE `CP (HL)`, R182
  | cp_a                          -- 0xBF `CP A`, R181
  | ret_nz                        -- 0xC0 `RET NZ`, R259
  | pop_bc                        -- 0xC1 `POP BC`, R137
  | push_bc                       -- 0xC5 `PUSH BC`, R136
  | rst_00                        -- 0xC7 `RST 00H`, R261
  | ret_z                         -- 0xC8 `RET Z`, R259
  | ret                           -- 0xC9 `RET`, R258
  | prefix_cb                     -- 0xCB `PREFIX CB`, R275
  | rst_08                        -- 0xCF `RST 08H`, R261
  | ret_nc                        -- 0xD0 `RET NC`, R259
  | pop_de                        -- 0xD1 `POP DE`, R137
  | undef_d3                      -- 0xD3 `UNDEF_D3`, R276
  | push_de                       -- 0xD5 `PUSH DE`, R136
  | rst_10                        -- 0xD7 `RST 10H`, R261
  | ret_c                         -- 0xD8 `RET C`, R259
  | reti                          -- 0xD9 `RETI`, R260
  | undef_db                      -- 0xDB `UNDEF_DB`, R276
  | undef_dd                      -- 0xDD `UNDEF_DD`, R276
  | rst_18                        -- 0xDF `RST 18H`, R261
  | pop_hl                        -- 0xE1 `POP HL`, R137
  | ldh_at_c_a                    -- 0xE2 `LDH (C),A`, R114
  | undef_e3                      -- 0xE3 `UNDEF_E3`, R276
  | undef_e4                      -- 0xE4 `UNDEF_E4`, R276
  | push_hl                       -- 0xE5 `PUSH HL`, R136
  | rst_20                        -- 0xE7 `RST 20H`, R261
  | jp_hl                         -- 0xE9 `JP HL`, R253
  | undef_eb                      -- 0xEB `UNDEF_EB`, R276
  | undef_ec                      -- 0xEC `UNDEF_EC`, R276
  | undef_ed                      -- 0xED `UNDEF_ED`, R276
  | rst_28                        -- 0xEF `RST 28H`, R261
  | pop_af                        -- 0xF1 `POP AF`, R138
  | ldh_a_at_c                    -- 0xF2 `LDH A,(C)`, R113
  | di                            -- 0xF3 `DI`, R273
  | undef_f4                      -- 0xF4 `UNDEF_F4`, R276
  | push_af                       -- 0xF5 `PUSH AF`, R136
  | rst_30                        -- 0xF7 `RST 30H`, R261
  | ld_sp_hl                      -- 0xF9 `LD SP,HL`, R134
  | ei                            -- 0xFB `EI`, R274
  | undef_fc                      -- 0xFC `UNDEF_FC`, R276
  | undef_fd                      -- 0xFD `UNDEF_FD`, R276
  | rst_38                        -- 0xFF `RST 38H`, R261
  -- the extended table (R69)
  | rlc_b                         -- 0x00 `RLC B`, R225
  | rlc_c                         -- 0x01 `RLC C`, R225
  | rlc_d                         -- 0x02 `RLC D`, R225
  | rlc_e                         -- 0x03 `RLC E`, R225
  | rlc_h                         -- 0x04 `RLC H`, R225
  | rlc_l                         -- 0x05 `RLC L`, R225
  | rlc_at_hl                     -- 0x06 `RLC (HL)`, R226
  | rlc_a                         -- 0x07 `RLC A`, R225
  | rrc_b                         -- 0x08 `RRC B`, R227
  | rrc_c                         -- 0x09 `RRC C`, R227
  | rrc_d                         -- 0x0A `RRC D`, R227
  | rrc_e                         -- 0x0B `RRC E`, R227
  | rrc_h                         -- 0x0C `RRC H`, R227
  | rrc_l                         -- 0x0D `RRC L`, R227
  | rrc_at_hl                     -- 0x0E `RRC (HL)`, R228
  | rrc_a                         -- 0x0F `RRC A`, R227
  | rl_b                          -- 0x10 `RL B`, R229
  | rl_c                          -- 0x11 `RL C`, R229
  | rl_d                          -- 0x12 `RL D`, R229
  | rl_e                          -- 0x13 `RL E`, R229
  | rl_h                          -- 0x14 `RL H`, R229
  | rl_l                          -- 0x15 `RL L`, R229
  | rl_at_hl                      -- 0x16 `RL (HL)`, R230
  | rl_a                          -- 0x17 `RL A`, R229
  | rr_b                          -- 0x18 `RR B`, R231
  | rr_c                          -- 0x19 `RR C`, R231
  | rr_d                          -- 0x1A `RR D`, R231
  | rr_e                          -- 0x1B `RR E`, R231
  | rr_h                          -- 0x1C `RR H`, R231
  | rr_l                          -- 0x1D `RR L`, R231
  | rr_at_hl                      -- 0x1E `RR (HL)`, R232
  | rr_a                          -- 0x1F `RR A`, R231
  | sla_b                         -- 0x20 `SLA B`, R233
  | sla_c                         -- 0x21 `SLA C`, R233
  | sla_d                         -- 0x22 `SLA D`, R233
  | sla_e                         -- 0x23 `SLA E`, R233
  | sla_h                         -- 0x24 `SLA H`, R233
  | sla_l                         -- 0x25 `SLA L`, R233
  | sla_at_hl                     -- 0x26 `SLA (HL)`, R234
  | sla_a                         -- 0x27 `SLA A`, R233
  | sra_b                         -- 0x28 `SRA B`, R235
  | sra_c                         -- 0x29 `SRA C`, R235
  | sra_d                         -- 0x2A `SRA D`, R235
  | sra_e                         -- 0x2B `SRA E`, R235
  | sra_h                         -- 0x2C `SRA H`, R235
  | sra_l                         -- 0x2D `SRA L`, R235
  | sra_at_hl                     -- 0x2E `SRA (HL)`, R236
  | sra_a                         -- 0x2F `SRA A`, R235
  | swap_b                        -- 0x30 `SWAP B`, R237
  | swap_c                        -- 0x31 `SWAP C`, R237
  | swap_d                        -- 0x32 `SWAP D`, R237
  | swap_e                        -- 0x33 `SWAP E`, R237
  | swap_h                        -- 0x34 `SWAP H`, R237
  | swap_l                        -- 0x35 `SWAP L`, R237
  | swap_at_hl                    -- 0x36 `SWAP (HL)`, R238
  | swap_a                        -- 0x37 `SWAP A`, R237
  | srl_b                         -- 0x38 `SRL B`, R239
  | srl_c                         -- 0x39 `SRL C`, R239
  | srl_d                         -- 0x3A `SRL D`, R239
  | srl_e                         -- 0x3B `SRL E`, R239
  | srl_h                         -- 0x3C `SRL H`, R239
  | srl_l                         -- 0x3D `SRL L`, R239
  | srl_at_hl                     -- 0x3E `SRL (HL)`, R240
  | srl_a                         -- 0x3F `SRL A`, R239
  | bit_0_b                       -- 0x40 `BIT 0,B`, R241
  | bit_0_c                       -- 0x41 `BIT 0,C`, R241
  | bit_0_d                       -- 0x42 `BIT 0,D`, R241
  | bit_0_e                       -- 0x43 `BIT 0,E`, R241
  | bit_0_h                       -- 0x44 `BIT 0,H`, R241
  | bit_0_l                       -- 0x45 `BIT 0,L`, R241
  | bit_0_at_hl                   -- 0x46 `BIT 0,(HL)`, R242
  | bit_0_a                       -- 0x47 `BIT 0,A`, R241
  | bit_1_b                       -- 0x48 `BIT 1,B`, R241
  | bit_1_c                       -- 0x49 `BIT 1,C`, R241
  | bit_1_d                       -- 0x4A `BIT 1,D`, R241
  | bit_1_e                       -- 0x4B `BIT 1,E`, R241
  | bit_1_h                       -- 0x4C `BIT 1,H`, R241
  | bit_1_l                       -- 0x4D `BIT 1,L`, R241
  | bit_1_at_hl                   -- 0x4E `BIT 1,(HL)`, R242
  | bit_1_a                       -- 0x4F `BIT 1,A`, R241
  | bit_2_b                       -- 0x50 `BIT 2,B`, R241
  | bit_2_c                       -- 0x51 `BIT 2,C`, R241
  | bit_2_d                       -- 0x52 `BIT 2,D`, R241
  | bit_2_e                       -- 0x53 `BIT 2,E`, R241
  | bit_2_h                       -- 0x54 `BIT 2,H`, R241
  | bit_2_l                       -- 0x55 `BIT 2,L`, R241
  | bit_2_at_hl                   -- 0x56 `BIT 2,(HL)`, R242
  | bit_2_a                       -- 0x57 `BIT 2,A`, R241
  | bit_3_b                       -- 0x58 `BIT 3,B`, R241
  | bit_3_c                       -- 0x59 `BIT 3,C`, R241
  | bit_3_d                       -- 0x5A `BIT 3,D`, R241
  | bit_3_e                       -- 0x5B `BIT 3,E`, R241
  | bit_3_h                       -- 0x5C `BIT 3,H`, R241
  | bit_3_l                       -- 0x5D `BIT 3,L`, R241
  | bit_3_at_hl                   -- 0x5E `BIT 3,(HL)`, R242
  | bit_3_a                       -- 0x5F `BIT 3,A`, R241
  | bit_4_b                       -- 0x60 `BIT 4,B`, R241
  | bit_4_c                       -- 0x61 `BIT 4,C`, R241
  | bit_4_d                       -- 0x62 `BIT 4,D`, R241
  | bit_4_e                       -- 0x63 `BIT 4,E`, R241
  | bit_4_h                       -- 0x64 `BIT 4,H`, R241
  | bit_4_l                       -- 0x65 `BIT 4,L`, R241
  | bit_4_at_hl                   -- 0x66 `BIT 4,(HL)`, R242
  | bit_4_a                       -- 0x67 `BIT 4,A`, R241
  | bit_5_b                       -- 0x68 `BIT 5,B`, R241
  | bit_5_c                       -- 0x69 `BIT 5,C`, R241
  | bit_5_d                       -- 0x6A `BIT 5,D`, R241
  | bit_5_e                       -- 0x6B `BIT 5,E`, R241
  | bit_5_h                       -- 0x6C `BIT 5,H`, R241
  | bit_5_l                       -- 0x6D `BIT 5,L`, R241
  | bit_5_at_hl                   -- 0x6E `BIT 5,(HL)`, R242
  | bit_5_a                       -- 0x6F `BIT 5,A`, R241
  | bit_6_b                       -- 0x70 `BIT 6,B`, R241
  | bit_6_c                       -- 0x71 `BIT 6,C`, R241
  | bit_6_d                       -- 0x72 `BIT 6,D`, R241
  | bit_6_e                       -- 0x73 `BIT 6,E`, R241
  | bit_6_h                       -- 0x74 `BIT 6,H`, R241
  | bit_6_l                       -- 0x75 `BIT 6,L`, R241
  | bit_6_at_hl                   -- 0x76 `BIT 6,(HL)`, R242
  | bit_6_a                       -- 0x77 `BIT 6,A`, R241
  | bit_7_b                       -- 0x78 `BIT 7,B`, R241
  | bit_7_c                       -- 0x79 `BIT 7,C`, R241
  | bit_7_d                       -- 0x7A `BIT 7,D`, R241
  | bit_7_e                       -- 0x7B `BIT 7,E`, R241
  | bit_7_h                       -- 0x7C `BIT 7,H`, R241
  | bit_7_l                       -- 0x7D `BIT 7,L`, R241
  | bit_7_at_hl                   -- 0x7E `BIT 7,(HL)`, R242
  | bit_7_a                       -- 0x7F `BIT 7,A`, R241
  | res_0_b                       -- 0x80 `RES 0,B`, R243
  | res_0_c                       -- 0x81 `RES 0,C`, R243
  | res_0_d                       -- 0x82 `RES 0,D`, R243
  | res_0_e                       -- 0x83 `RES 0,E`, R243
  | res_0_h                       -- 0x84 `RES 0,H`, R243
  | res_0_l                       -- 0x85 `RES 0,L`, R243
  | res_0_at_hl                   -- 0x86 `RES 0,(HL)`, R244
  | res_0_a                       -- 0x87 `RES 0,A`, R243
  | res_1_b                       -- 0x88 `RES 1,B`, R243
  | res_1_c                       -- 0x89 `RES 1,C`, R243
  | res_1_d                       -- 0x8A `RES 1,D`, R243
  | res_1_e                       -- 0x8B `RES 1,E`, R243
  | res_1_h                       -- 0x8C `RES 1,H`, R243
  | res_1_l                       -- 0x8D `RES 1,L`, R243
  | res_1_at_hl                   -- 0x8E `RES 1,(HL)`, R244
  | res_1_a                       -- 0x8F `RES 1,A`, R243
  | res_2_b                       -- 0x90 `RES 2,B`, R243
  | res_2_c                       -- 0x91 `RES 2,C`, R243
  | res_2_d                       -- 0x92 `RES 2,D`, R243
  | res_2_e                       -- 0x93 `RES 2,E`, R243
  | res_2_h                       -- 0x94 `RES 2,H`, R243
  | res_2_l                       -- 0x95 `RES 2,L`, R243
  | res_2_at_hl                   -- 0x96 `RES 2,(HL)`, R244
  | res_2_a                       -- 0x97 `RES 2,A`, R243
  | res_3_b                       -- 0x98 `RES 3,B`, R243
  | res_3_c                       -- 0x99 `RES 3,C`, R243
  | res_3_d                       -- 0x9A `RES 3,D`, R243
  | res_3_e                       -- 0x9B `RES 3,E`, R243
  | res_3_h                       -- 0x9C `RES 3,H`, R243
  | res_3_l                       -- 0x9D `RES 3,L`, R243
  | res_3_at_hl                   -- 0x9E `RES 3,(HL)`, R244
  | res_3_a                       -- 0x9F `RES 3,A`, R243
  | res_4_b                       -- 0xA0 `RES 4,B`, R243
  | res_4_c                       -- 0xA1 `RES 4,C`, R243
  | res_4_d                       -- 0xA2 `RES 4,D`, R243
  | res_4_e                       -- 0xA3 `RES 4,E`, R243
  | res_4_h                       -- 0xA4 `RES 4,H`, R243
  | res_4_l                       -- 0xA5 `RES 4,L`, R243
  | res_4_at_hl                   -- 0xA6 `RES 4,(HL)`, R244
  | res_4_a                       -- 0xA7 `RES 4,A`, R243
  | res_5_b                       -- 0xA8 `RES 5,B`, R243
  | res_5_c                       -- 0xA9 `RES 5,C`, R243
  | res_5_d                       -- 0xAA `RES 5,D`, R243
  | res_5_e                       -- 0xAB `RES 5,E`, R243
  | res_5_h                       -- 0xAC `RES 5,H`, R243
  | res_5_l                       -- 0xAD `RES 5,L`, R243
  | res_5_at_hl                   -- 0xAE `RES 5,(HL)`, R244
  | res_5_a                       -- 0xAF `RES 5,A`, R243
  | res_6_b                       -- 0xB0 `RES 6,B`, R243
  | res_6_c                       -- 0xB1 `RES 6,C`, R243
  | res_6_d                       -- 0xB2 `RES 6,D`, R243
  | res_6_e                       -- 0xB3 `RES 6,E`, R243
  | res_6_h                       -- 0xB4 `RES 6,H`, R243
  | res_6_l                       -- 0xB5 `RES 6,L`, R243
  | res_6_at_hl                   -- 0xB6 `RES 6,(HL)`, R244
  | res_6_a                       -- 0xB7 `RES 6,A`, R243
  | res_7_b                       -- 0xB8 `RES 7,B`, R243
  | res_7_c                       -- 0xB9 `RES 7,C`, R243
  | res_7_d                       -- 0xBA `RES 7,D`, R243
  | res_7_e                       -- 0xBB `RES 7,E`, R243
  | res_7_h                       -- 0xBC `RES 7,H`, R243
  | res_7_l                       -- 0xBD `RES 7,L`, R243
  | res_7_at_hl                   -- 0xBE `RES 7,(HL)`, R244
  | res_7_a                       -- 0xBF `RES 7,A`, R243
  | set_0_b                       -- 0xC0 `SET 0,B`, R245
  | set_0_c                       -- 0xC1 `SET 0,C`, R245
  | set_0_d                       -- 0xC2 `SET 0,D`, R245
  | set_0_e                       -- 0xC3 `SET 0,E`, R245
  | set_0_h                       -- 0xC4 `SET 0,H`, R245
  | set_0_l                       -- 0xC5 `SET 0,L`, R245
  | set_0_at_hl                   -- 0xC6 `SET 0,(HL)`, R246
  | set_0_a                       -- 0xC7 `SET 0,A`, R245
  | set_1_b                       -- 0xC8 `SET 1,B`, R245
  | set_1_c                       -- 0xC9 `SET 1,C`, R245
  | set_1_d                       -- 0xCA `SET 1,D`, R245
  | set_1_e                       -- 0xCB `SET 1,E`, R245
  | set_1_h                       -- 0xCC `SET 1,H`, R245
  | set_1_l                       -- 0xCD `SET 1,L`, R245
  | set_1_at_hl                   -- 0xCE `SET 1,(HL)`, R246
  | set_1_a                       -- 0xCF `SET 1,A`, R245
  | set_2_b                       -- 0xD0 `SET 2,B`, R245
  | set_2_c                       -- 0xD1 `SET 2,C`, R245
  | set_2_d                       -- 0xD2 `SET 2,D`, R245
  | set_2_e                       -- 0xD3 `SET 2,E`, R245
  | set_2_h                       -- 0xD4 `SET 2,H`, R245
  | set_2_l                       -- 0xD5 `SET 2,L`, R245
  | set_2_at_hl                   -- 0xD6 `SET 2,(HL)`, R246
  | set_2_a                       -- 0xD7 `SET 2,A`, R245
  | set_3_b                       -- 0xD8 `SET 3,B`, R245
  | set_3_c                       -- 0xD9 `SET 3,C`, R245
  | set_3_d                       -- 0xDA `SET 3,D`, R245
  | set_3_e                       -- 0xDB `SET 3,E`, R245
  | set_3_h                       -- 0xDC `SET 3,H`, R245
  | set_3_l                       -- 0xDD `SET 3,L`, R245
  | set_3_at_hl                   -- 0xDE `SET 3,(HL)`, R246
  | set_3_a                       -- 0xDF `SET 3,A`, R245
  | set_4_b                       -- 0xE0 `SET 4,B`, R245
  | set_4_c                       -- 0xE1 `SET 4,C`, R245
  | set_4_d                       -- 0xE2 `SET 4,D`, R245
  | set_4_e                       -- 0xE3 `SET 4,E`, R245
  | set_4_h                       -- 0xE4 `SET 4,H`, R245
  | set_4_l                       -- 0xE5 `SET 4,L`, R245
  | set_4_at_hl                   -- 0xE6 `SET 4,(HL)`, R246
  | set_4_a                       -- 0xE7 `SET 4,A`, R245
  | set_5_b                       -- 0xE8 `SET 5,B`, R245
  | set_5_c                       -- 0xE9 `SET 5,C`, R245
  | set_5_d                       -- 0xEA `SET 5,D`, R245
  | set_5_e                       -- 0xEB `SET 5,E`, R245
  | set_5_h                       -- 0xEC `SET 5,H`, R245
  | set_5_l                       -- 0xED `SET 5,L`, R245
  | set_5_at_hl                   -- 0xEE `SET 5,(HL)`, R246
  | set_5_a                       -- 0xEF `SET 5,A`, R245
  | set_6_b                       -- 0xF0 `SET 6,B`, R245
  | set_6_c                       -- 0xF1 `SET 6,C`, R245
  | set_6_d                       -- 0xF2 `SET 6,D`, R245
  | set_6_e                       -- 0xF3 `SET 6,E`, R245
  | set_6_h                       -- 0xF4 `SET 6,H`, R245
  | set_6_l                       -- 0xF5 `SET 6,L`, R245
  | set_6_at_hl                   -- 0xF6 `SET 6,(HL)`, R246
  | set_6_a                       -- 0xF7 `SET 6,A`, R245
  | set_7_b                       -- 0xF8 `SET 7,B`, R245
  | set_7_c                       -- 0xF9 `SET 7,C`, R245
  | set_7_d                       -- 0xFA `SET 7,D`, R245
  | set_7_e                       -- 0xFB `SET 7,E`, R245
  | set_7_h                       -- 0xFC `SET 7,H`, R245
  | set_7_l                       -- 0xFD `SET 7,L`, R245
  | set_7_at_hl                   -- 0xFE `SET 7,(HL)`, R246
  | set_7_a                       -- 0xFF `SET 7,A`, R245
  deriving DecidableEq, Repr

end Sys2Proof
end

