-- ==== Sys2Proof/Decode.lean ====
section
/-! DEFINITION. Decoding and encoding. The DECODER is the two flat tables of 30_encoding.md, written row
by row as the overview grids of R68 and R69 stand in the spec (row = high nibble, column = low nibble).
The ENCODER is written from the bit patterns that the instruction rules and R61 to R67 give (`01 yyy zzz`
and so on), through the form of an instruction; that the two agree is a statement, not a definition. -/

namespace Sys2Proof

/-! ## From forms to instructions and back -/

/-- The instruction of a form: the constructor of `Instr` that the form's operands name. -/
def Form.instr : Form → Instr
  | .nop => .nop
  | .ldWide .bc nn => .ld_bc_nn nn
  | .ldBcA => .ld_at_bc_a
  | .incWide .bc => .inc_bc
  | .inc (.reg .b) => .inc_b
  | .dec (.reg .b) => .dec_b
  | .ld .b (.imm n) => .ld_b_n n
  | .rlca => .rlca
  | .ldNnSp nn => .ld_at_nn_sp nn
  | .addHl .bc => .add_hl_bc
  | .ldABc => .ld_a_at_bc
  | .decWide .bc => .dec_bc
  | .inc (.reg .c) => .inc_c
  | .dec (.reg .c) => .dec_c
  | .ld .c (.imm n) => .ld_c_n n
  | .rrca => .rrca
  | .stop n => .stop n
  | .ldWide .de nn => .ld_de_nn nn
  | .ldDeA => .ld_at_de_a
  | .incWide .de => .inc_de
  | .inc (.reg .d) => .inc_d
  | .dec (.reg .d) => .dec_d
  | .ld .d (.imm n) => .ld_d_n n
  | .rla => .rla
  | .jr e => .jr_e e
  | .addHl .de => .add_hl_de
  | .ldADe => .ld_a_at_de
  | .decWide .de => .dec_de
  | .inc (.reg .e) => .inc_e
  | .dec (.reg .e) => .dec_e
  | .ld .e (.imm n) => .ld_e_n n
  | .rra => .rra
  | .jrCc .nz e => .jr_nz_e e
  | .ldWide .hl nn => .ld_hl_nn nn
  | .ldHliA => .ld_at_hli_a
  | .incWide .hl => .inc_hl
  | .inc (.reg .h) => .inc_h
  | .dec (.reg .h) => .dec_h
  | .ld .h (.imm n) => .ld_h_n n
  | .daa => .daa
  | .jrCc .z e => .jr_z_e e
  | .addHl .hl => .add_hl_hl
  | .ldAHli => .ld_a_at_hli
  | .decWide .hl => .dec_hl
  | .inc (.reg .l) => .inc_l
  | .dec (.reg .l) => .dec_l
  | .ld .l (.imm n) => .ld_l_n n
  | .cpl => .cpl
  | .jrCc .nc e => .jr_nc_e e
  | .ldWide .sp nn => .ld_sp_nn nn
  | .ldHldA => .ld_at_hld_a
  | .incWide .sp => .inc_sp
  | .inc .atHl => .inc_at_hl
  | .dec .atHl => .dec_at_hl
  | .ldHlImm n => .ld_at_hl_n n
  | .scf => .scf
  | .jrCc .c e => .jr_c_e e
  | .addHl .sp => .add_hl_sp
  | .ldAHld => .ld_a_at_hld
  | .decWide .sp => .dec_sp
  | .inc (.reg .a) => .inc_a
  | .dec (.reg .a) => .dec_a
  | .ld .a (.imm n) => .ld_a_n n
  | .ccf => .ccf
  | .ld .b (.reg .b) => .ld_b_b
  | .ld .b (.reg .c) => .ld_b_c
  | .ld .b (.reg .d) => .ld_b_d
  | .ld .b (.reg .e) => .ld_b_e
  | .ld .b (.reg .h) => .ld_b_h
  | .ld .b (.reg .l) => .ld_b_l
  | .ld .b .atHl => .ld_b_at_hl
  | .ld .b (.reg .a) => .ld_b_a
  | .ld .c (.reg .b) => .ld_c_b
  | .ld .c (.reg .c) => .ld_c_c
  | .ld .c (.reg .d) => .ld_c_d
  | .ld .c (.reg .e) => .ld_c_e
  | .ld .c (.reg .h) => .ld_c_h
  | .ld .c (.reg .l) => .ld_c_l
  | .ld .c .atHl => .ld_c_at_hl
  | .ld .c (.reg .a) => .ld_c_a
  | .ld .d (.reg .b) => .ld_d_b
  | .ld .d (.reg .c) => .ld_d_c
  | .ld .d (.reg .d) => .ld_d_d
  | .ld .d (.reg .e) => .ld_d_e
  | .ld .d (.reg .h) => .ld_d_h
  | .ld .d (.reg .l) => .ld_d_l
  | .ld .d .atHl => .ld_d_at_hl
  | .ld .d (.reg .a) => .ld_d_a
  | .ld .e (.reg .b) => .ld_e_b
  | .ld .e (.reg .c) => .ld_e_c
  | .ld .e (.reg .d) => .ld_e_d
  | .ld .e (.reg .e) => .ld_e_e
  | .ld .e (.reg .h) => .ld_e_h
  | .ld .e (.reg .l) => .ld_e_l
  | .ld .e .atHl => .ld_e_at_hl
  | .ld .e (.reg .a) => .ld_e_a
  | .ld .h (.reg .b) => .ld_h_b
  | .ld .h (.reg .c) => .ld_h_c
  | .ld .h (.reg .d) => .ld_h_d
  | .ld .h (.reg .e) => .ld_h_e
  | .ld .h (.reg .h) => .ld_h_h
  | .ld .h (.reg .l) => .ld_h_l
  | .ld .h .atHl => .ld_h_at_hl
  | .ld .h (.reg .a) => .ld_h_a
  | .ld .l (.reg .b) => .ld_l_b
  | .ld .l (.reg .c) => .ld_l_c
  | .ld .l (.reg .d) => .ld_l_d
  | .ld .l (.reg .e) => .ld_l_e
  | .ld .l (.reg .h) => .ld_l_h
  | .ld .l (.reg .l) => .ld_l_l
  | .ld .l .atHl => .ld_l_at_hl
  | .ld .l (.reg .a) => .ld_l_a
  | .ldToHl .b => .ld_at_hl_b
  | .ldToHl .c => .ld_at_hl_c
  | .ldToHl .d => .ld_at_hl_d
  | .ldToHl .e => .ld_at_hl_e
  | .ldToHl .h => .ld_at_hl_h
  | .ldToHl .l => .ld_at_hl_l
  | .halt => .halt
  | .ldToHl .a => .ld_at_hl_a
  | .ld .a (.reg .b) => .ld_a_b
  | .ld .a (.reg .c) => .ld_a_c
  | .ld .a (.reg .d) => .ld_a_d
  | .ld .a (.reg .e) => .ld_a_e
  | .ld .a (.reg .h) => .ld_a_h
  | .ld .a (.reg .l) => .ld_a_l
  | .ld .a .atHl => .ld_a_at_hl
  | .ld .a (.reg .a) => .ld_a_a
  | .alu .add (.reg .b) => .add_a_b
  | .alu .add (.reg .c) => .add_a_c
  | .alu .add (.reg .d) => .add_a_d
  | .alu .add (.reg .e) => .add_a_e
  | .alu .add (.reg .h) => .add_a_h
  | .alu .add (.reg .l) => .add_a_l
  | .alu .add .atHl => .add_a_at_hl
  | .alu .add (.reg .a) => .add_a_a
  | .alu .adc (.reg .b) => .adc_a_b
  | .alu .adc (.reg .c) => .adc_a_c
  | .alu .adc (.reg .d) => .adc_a_d
  | .alu .adc (.reg .e) => .adc_a_e
  | .alu .adc (.reg .h) => .adc_a_h
  | .alu .adc (.reg .l) => .adc_a_l
  | .alu .adc .atHl => .adc_a_at_hl
  | .alu .adc (.reg .a) => .adc_a_a
  | .alu .sub (.reg .b) => .sub_b
  | .alu .sub (.reg .c) => .sub_c
  | .alu .sub (.reg .d) => .sub_d
  | .alu .sub (.reg .e) => .sub_e
  | .alu .sub (.reg .h) => .sub_h
  | .alu .sub (.reg .l) => .sub_l
  | .alu .sub .atHl => .sub_at_hl
  | .alu .sub (.reg .a) => .sub_a
  | .alu .sbc (.reg .b) => .sbc_a_b
  | .alu .sbc (.reg .c) => .sbc_a_c
  | .alu .sbc (.reg .d) => .sbc_a_d
  | .alu .sbc (.reg .e) => .sbc_a_e
  | .alu .sbc (.reg .h) => .sbc_a_h
  | .alu .sbc (.reg .l) => .sbc_a_l
  | .alu .sbc .atHl => .sbc_a_at_hl
  | .alu .sbc (.reg .a) => .sbc_a_a
  | .alu .and (.reg .b) => .and_b
  | .alu .and (.reg .c) => .and_c
  | .alu .and (.reg .d) => .and_d
  | .alu .and (.reg .e) => .and_e
  | .alu .and (.reg .h) => .and_h
  | .alu .and (.reg .l) => .and_l
  | .alu .and .atHl => .and_at_hl
  | .alu .and (.reg .a) => .and_a
  | .alu .xor (.reg .b) => .xor_b
  | .alu .xor (.reg .c) => .xor_c
  | .alu .xor (.reg .d) => .xor_d
  | .alu .xor (.reg .e) => .xor_e
  | .alu .xor (.reg .h) => .xor_h
  | .alu .xor (.reg .l) => .xor_l
  | .alu .xor .atHl => .xor_at_hl
  | .alu .xor (.reg .a) => .xor_a
  | .alu .or (.reg .b) => .or_b
  | .alu .or (.reg .c) => .or_c
  | .alu .or (.reg .d) => .or_d
  | .alu .or (.reg .e) => .or_e
  | .alu .or (.reg .h) => .or_h
  | .alu .or (.reg .l) => .or_l
  | .alu .or .atHl => .or_at_hl
  | .alu .or (.reg .a) => .or_a
  | .alu .cp (.reg .b) => .cp_b
  | .alu .cp (.reg .c) => .cp_c
  | .alu .cp (.reg .d) => .cp_d
  | .alu .cp (.reg .e) => .cp_e
  | .alu .cp (.reg .h) => .cp_h
  | .alu .cp (.reg .l) => .cp_l
  | .alu .cp .atHl => .cp_at_hl
  | .alu .cp (.reg .a) => .cp_a
  | .retCc .nz => .ret_nz
  | .pop .bc => .pop_bc
  | .jpCc .nz nn => .jp_nz_nn nn
  | .jp nn => .jp_nn nn
  | .callCc .nz nn => .call_nz_nn nn
  | .push .bc => .push_bc
  | .alu .add (.imm n) => .add_a_n n
  | .rst .o0 => .rst_00
  | .retCc .z => .ret_z
  | .ret => .ret
  | .jpCc .z nn => .jp_z_nn nn
  | .prefixCb => .prefix_cb
  | .callCc .z nn => .call_z_nn nn
  | .call nn => .call_nn nn
  | .alu .adc (.imm n) => .adc_a_n n
  | .rst .o1 => .rst_08
  | .retCc .nc => .ret_nc
  | .pop .de => .pop_de
  | .jpCc .nc nn => .jp_nc_nn nn
  | .undef .d3 => .undef_d3
  | .callCc .nc nn => .call_nc_nn nn
  | .push .de => .push_de
  | .alu .sub (.imm n) => .sub_n n
  | .rst .o2 => .rst_10
  | .retCc .c => .ret_c
  | .reti => .reti
  | .jpCc .c nn => .jp_c_nn nn
  | .undef .db => .undef_db
  | .callCc .c nn => .call_c_nn nn
  | .undef .dd => .undef_dd
  | .alu .sbc (.imm n) => .sbc_a_n n
  | .rst .o3 => .rst_18
  | .ldhNA n => .ldh_at_n_a n
  | .pop .hl => .pop_hl
  | .ldhCA => .ldh_at_c_a
  | .undef .e3 => .undef_e3
  | .undef .e4 => .undef_e4
  | .push .hl => .push_hl
  | .alu .and (.imm n) => .and_n n
  | .rst .o4 => .rst_20
  | .addSpE e => .add_sp_e e
  | .jpHl => .jp_hl
  | .ldNnA nn => .ld_at_nn_a nn
  | .undef .eb => .undef_eb
  | .undef .ec => .undef_ec
  | .undef .ed => .undef_ed
  | .alu .xor (.imm n) => .xor_n n
  | .rst .o5 => .rst_28
  | .ldhAN n => .ldh_a_at_n n
  | .pop .af => .pop_af
  | .ldhAC => .ldh_a_at_c
  | .di => .di
  | .undef .f4 => .undef_f4
  | .push .af => .push_af
  | .alu .or (.imm n) => .or_n n
  | .rst .o6 => .rst_30
  | .ldHlSpE e => .ld_hl_sp_e e
  | .ldSpHl => .ld_sp_hl
  | .ldANn nn => .ld_a_at_nn nn
  | .ei => .ei
  | .undef .fc => .undef_fc
  | .undef .fd => .undef_fd
  | .alu .cp (.imm n) => .cp_n n
  | .rst .o7 => .rst_38
  | .rot .rlc (.reg .b) => .rlc_b
  | .rot .rlc (.reg .c) => .rlc_c
  | .rot .rlc (.reg .d) => .rlc_d
  | .rot .rlc (.reg .e) => .rlc_e
  | .rot .rlc (.reg .h) => .rlc_h
  | .rot .rlc (.reg .l) => .rlc_l
  | .rot .rlc .atHl => .rlc_at_hl
  | .rot .rlc (.reg .a) => .rlc_a
  | .rot .rrc (.reg .b) => .rrc_b
  | .rot .rrc (.reg .c) => .rrc_c
  | .rot .rrc (.reg .d) => .rrc_d
  | .rot .rrc (.reg .e) => .rrc_e
  | .rot .rrc (.reg .h) => .rrc_h
  | .rot .rrc (.reg .l) => .rrc_l
  | .rot .rrc .atHl => .rrc_at_hl
  | .rot .rrc (.reg .a) => .rrc_a
  | .rot .rl (.reg .b) => .rl_b
  | .rot .rl (.reg .c) => .rl_c
  | .rot .rl (.reg .d) => .rl_d
  | .rot .rl (.reg .e) => .rl_e
  | .rot .rl (.reg .h) => .rl_h
  | .rot .rl (.reg .l) => .rl_l
  | .rot .rl .atHl => .rl_at_hl
  | .rot .rl (.reg .a) => .rl_a
  | .rot .rr (.reg .b) => .rr_b
  | .rot .rr (.reg .c) => .rr_c
  | .rot .rr (.reg .d) => .rr_d
  | .rot .rr (.reg .e) => .rr_e
  | .rot .rr (.reg .h) => .rr_h
  | .rot .rr (.reg .l) => .rr_l
  | .rot .rr .atHl => .rr_at_hl
  | .rot .rr (.reg .a) => .rr_a
  | .rot .sla (.reg .b) => .sla_b
  | .rot .sla (.reg .c) => .sla_c
  | .rot .sla (.reg .d) => .sla_d
  | .rot .sla (.reg .e) => .sla_e
  | .rot .sla (.reg .h) => .sla_h
  | .rot .sla (.reg .l) => .sla_l
  | .rot .sla .atHl => .sla_at_hl
  | .rot .sla (.reg .a) => .sla_a
  | .rot .sra (.reg .b) => .sra_b
  | .rot .sra (.reg .c) => .sra_c
  | .rot .sra (.reg .d) => .sra_d
  | .rot .sra (.reg .e) => .sra_e
  | .rot .sra (.reg .h) => .sra_h
  | .rot .sra (.reg .l) => .sra_l
  | .rot .sra .atHl => .sra_at_hl
  | .rot .sra (.reg .a) => .sra_a
  | .rot .swap (.reg .b) => .swap_b
  | .rot .swap (.reg .c) => .swap_c
  | .rot .swap (.reg .d) => .swap_d
  | .rot .swap (.reg .e) => .swap_e
  | .rot .swap (.reg .h) => .swap_h
  | .rot .swap (.reg .l) => .swap_l
  | .rot .swap .atHl => .swap_at_hl
  | .rot .swap (.reg .a) => .swap_a
  | .rot .srl (.reg .b) => .srl_b
  | .rot .srl (.reg .c) => .srl_c
  | .rot .srl (.reg .d) => .srl_d
  | .rot .srl (.reg .e) => .srl_e
  | .rot .srl (.reg .h) => .srl_h
  | .rot .srl (.reg .l) => .srl_l
  | .rot .srl .atHl => .srl_at_hl
  | .rot .srl (.reg .a) => .srl_a
  | .bit .o0 (.reg .b) => .bit_0_b
  | .bit .o0 (.reg .c) => .bit_0_c
  | .bit .o0 (.reg .d) => .bit_0_d
  | .bit .o0 (.reg .e) => .bit_0_e
  | .bit .o0 (.reg .h) => .bit_0_h
  | .bit .o0 (.reg .l) => .bit_0_l
  | .bit .o0 .atHl => .bit_0_at_hl
  | .bit .o0 (.reg .a) => .bit_0_a
  | .bit .o1 (.reg .b) => .bit_1_b
  | .bit .o1 (.reg .c) => .bit_1_c
  | .bit .o1 (.reg .d) => .bit_1_d
  | .bit .o1 (.reg .e) => .bit_1_e
  | .bit .o1 (.reg .h) => .bit_1_h
  | .bit .o1 (.reg .l) => .bit_1_l
  | .bit .o1 .atHl => .bit_1_at_hl
  | .bit .o1 (.reg .a) => .bit_1_a
  | .bit .o2 (.reg .b) => .bit_2_b
  | .bit .o2 (.reg .c) => .bit_2_c
  | .bit .o2 (.reg .d) => .bit_2_d
  | .bit .o2 (.reg .e) => .bit_2_e
  | .bit .o2 (.reg .h) => .bit_2_h
  | .bit .o2 (.reg .l) => .bit_2_l
  | .bit .o2 .atHl => .bit_2_at_hl
  | .bit .o2 (.reg .a) => .bit_2_a
  | .bit .o3 (.reg .b) => .bit_3_b
  | .bit .o3 (.reg .c) => .bit_3_c
  | .bit .o3 (.reg .d) => .bit_3_d
  | .bit .o3 (.reg .e) => .bit_3_e
  | .bit .o3 (.reg .h) => .bit_3_h
  | .bit .o3 (.reg .l) => .bit_3_l
  | .bit .o3 .atHl => .bit_3_at_hl
  | .bit .o3 (.reg .a) => .bit_3_a
  | .bit .o4 (.reg .b) => .bit_4_b
  | .bit .o4 (.reg .c) => .bit_4_c
  | .bit .o4 (.reg .d) => .bit_4_d
  | .bit .o4 (.reg .e) => .bit_4_e
  | .bit .o4 (.reg .h) => .bit_4_h
  | .bit .o4 (.reg .l) => .bit_4_l
  | .bit .o4 .atHl => .bit_4_at_hl
  | .bit .o4 (.reg .a) => .bit_4_a
  | .bit .o5 (.reg .b) => .bit_5_b
  | .bit .o5 (.reg .c) => .bit_5_c
  | .bit .o5 (.reg .d) => .bit_5_d
  | .bit .o5 (.reg .e) => .bit_5_e
  | .bit .o5 (.reg .h) => .bit_5_h
  | .bit .o5 (.reg .l) => .bit_5_l
  | .bit .o5 .atHl => .bit_5_at_hl
  | .bit .o5 (.reg .a) => .bit_5_a
  | .bit .o6 (.reg .b) => .bit_6_b
  | .bit .o6 (.reg .c) => .bit_6_c
  | .bit .o6 (.reg .d) => .bit_6_d
  | .bit .o6 (.reg .e) => .bit_6_e
  | .bit .o6 (.reg .h) => .bit_6_h
  | .bit .o6 (.reg .l) => .bit_6_l
  | .bit .o6 .atHl => .bit_6_at_hl
  | .bit .o6 (.reg .a) => .bit_6_a
  | .bit .o7 (.reg .b) => .bit_7_b
  | .bit .o7 (.reg .c) => .bit_7_c
  | .bit .o7 (.reg .d) => .bit_7_d
  | .bit .o7 (.reg .e) => .bit_7_e
  | .bit .o7 (.reg .h) => .bit_7_h
  | .bit .o7 (.reg .l) => .bit_7_l
  | .bit .o7 .atHl => .bit_7_at_hl
  | .bit .o7 (.reg .a) => .bit_7_a
  | .res .o0 (.reg .b) => .res_0_b
  | .res .o0 (.reg .c) => .res_0_c
  | .res .o0 (.reg .d) => .res_0_d
  | .res .o0 (.reg .e) => .res_0_e
  | .res .o0 (.reg .h) => .res_0_h
  | .res .o0 (.reg .l) => .res_0_l
  | .res .o0 .atHl => .res_0_at_hl
  | .res .o0 (.reg .a) => .res_0_a
  | .res .o1 (.reg .b) => .res_1_b
  | .res .o1 (.reg .c) => .res_1_c
  | .res .o1 (.reg .d) => .res_1_d
  | .res .o1 (.reg .e) => .res_1_e
  | .res .o1 (.reg .h) => .res_1_h
  | .res .o1 (.reg .l) => .res_1_l
  | .res .o1 .atHl => .res_1_at_hl
  | .res .o1 (.reg .a) => .res_1_a
  | .res .o2 (.reg .b) => .res_2_b
  | .res .o2 (.reg .c) => .res_2_c
  | .res .o2 (.reg .d) => .res_2_d
  | .res .o2 (.reg .e) => .res_2_e
  | .res .o2 (.reg .h) => .res_2_h
  | .res .o2 (.reg .l) => .res_2_l
  | .res .o2 .atHl => .res_2_at_hl
  | .res .o2 (.reg .a) => .res_2_a
  | .res .o3 (.reg .b) => .res_3_b
  | .res .o3 (.reg .c) => .res_3_c
  | .res .o3 (.reg .d) => .res_3_d
  | .res .o3 (.reg .e) => .res_3_e
  | .res .o3 (.reg .h) => .res_3_h
  | .res .o3 (.reg .l) => .res_3_l
  | .res .o3 .atHl => .res_3_at_hl
  | .res .o3 (.reg .a) => .res_3_a
  | .res .o4 (.reg .b) => .res_4_b
  | .res .o4 (.reg .c) => .res_4_c
  | .res .o4 (.reg .d) => .res_4_d
  | .res .o4 (.reg .e) => .res_4_e
  | .res .o4 (.reg .h) => .res_4_h
  | .res .o4 (.reg .l) => .res_4_l
  | .res .o4 .atHl => .res_4_at_hl
  | .res .o4 (.reg .a) => .res_4_a
  | .res .o5 (.reg .b) => .res_5_b
  | .res .o5 (.reg .c) => .res_5_c
  | .res .o5 (.reg .d) => .res_5_d
  | .res .o5 (.reg .e) => .res_5_e
  | .res .o5 (.reg .h) => .res_5_h
  | .res .o5 (.reg .l) => .res_5_l
  | .res .o5 .atHl => .res_5_at_hl
  | .res .o5 (.reg .a) => .res_5_a
  | .res .o6 (.reg .b) => .res_6_b
  | .res .o6 (.reg .c) => .res_6_c
  | .res .o6 (.reg .d) => .res_6_d
  | .res .o6 (.reg .e) => .res_6_e
  | .res .o6 (.reg .h) => .res_6_h
  | .res .o6 (.reg .l) => .res_6_l
  | .res .o6 .atHl => .res_6_at_hl
  | .res .o6 (.reg .a) => .res_6_a
  | .res .o7 (.reg .b) => .res_7_b
  | .res .o7 (.reg .c) => .res_7_c
  | .res .o7 (.reg .d) => .res_7_d
  | .res .o7 (.reg .e) => .res_7_e
  | .res .o7 (.reg .h) => .res_7_h
  | .res .o7 (.reg .l) => .res_7_l
  | .res .o7 .atHl => .res_7_at_hl
  | .res .o7 (.reg .a) => .res_7_a
  | .set .o0 (.reg .b) => .set_0_b
  | .set .o0 (.reg .c) => .set_0_c
  | .set .o0 (.reg .d) => .set_0_d
  | .set .o0 (.reg .e) => .set_0_e
  | .set .o0 (.reg .h) => .set_0_h
  | .set .o0 (.reg .l) => .set_0_l
  | .set .o0 .atHl => .set_0_at_hl
  | .set .o0 (.reg .a) => .set_0_a
  | .set .o1 (.reg .b) => .set_1_b
  | .set .o1 (.reg .c) => .set_1_c
  | .set .o1 (.reg .d) => .set_1_d
  | .set .o1 (.reg .e) => .set_1_e
  | .set .o1 (.reg .h) => .set_1_h
  | .set .o1 (.reg .l) => .set_1_l
  | .set .o1 .atHl => .set_1_at_hl
  | .set .o1 (.reg .a) => .set_1_a
  | .set .o2 (.reg .b) => .set_2_b
  | .set .o2 (.reg .c) => .set_2_c
  | .set .o2 (.reg .d) => .set_2_d
  | .set .o2 (.reg .e) => .set_2_e
  | .set .o2 (.reg .h) => .set_2_h
  | .set .o2 (.reg .l) => .set_2_l
  | .set .o2 .atHl => .set_2_at_hl
  | .set .o2 (.reg .a) => .set_2_a
  | .set .o3 (.reg .b) => .set_3_b
  | .set .o3 (.reg .c) => .set_3_c
  | .set .o3 (.reg .d) => .set_3_d
  | .set .o3 (.reg .e) => .set_3_e
  | .set .o3 (.reg .h) => .set_3_h
  | .set .o3 (.reg .l) => .set_3_l
  | .set .o3 .atHl => .set_3_at_hl
  | .set .o3 (.reg .a) => .set_3_a
  | .set .o4 (.reg .b) => .set_4_b
  | .set .o4 (.reg .c) => .set_4_c
  | .set .o4 (.reg .d) => .set_4_d
  | .set .o4 (.reg .e) => .set_4_e
  | .set .o4 (.reg .h) => .set_4_h
  | .set .o4 (.reg .l) => .set_4_l
  | .set .o4 .atHl => .set_4_at_hl
  | .set .o4 (.reg .a) => .set_4_a
  | .set .o5 (.reg .b) => .set_5_b
  | .set .o5 (.reg .c) => .set_5_c
  | .set .o5 (.reg .d) => .set_5_d
  | .set .o5 (.reg .e) => .set_5_e
  | .set .o5 (.reg .h) => .set_5_h
  | .set .o5 (.reg .l) => .set_5_l
  | .set .o5 .atHl => .set_5_at_hl
  | .set .o5 (.reg .a) => .set_5_a
  | .set .o6 (.reg .b) => .set_6_b
  | .set .o6 (.reg .c) => .set_6_c
  | .set .o6 (.reg .d) => .set_6_d
  | .set .o6 (.reg .e) => .set_6_e
  | .set .o6 (.reg .h) => .set_6_h
  | .set .o6 (.reg .l) => .set_6_l
  | .set .o6 .atHl => .set_6_at_hl
  | .set .o6 (.reg .a) => .set_6_a
  | .set .o7 (.reg .b) => .set_7_b
  | .set .o7 (.reg .c) => .set_7_c
  | .set .o7 (.reg .d) => .set_7_d
  | .set .o7 (.reg .e) => .set_7_e
  | .set .o7 (.reg .h) => .set_7_h
  | .set .o7 (.reg .l) => .set_7_l
  | .set .o7 .atHl => .set_7_at_hl
  | .set .o7 (.reg .a) => .set_7_a

/-- The form of an instruction. -/
def Instr.form : Instr → Form
  | .nop => .nop
  | .ld_bc_nn nn => .ldWide .bc nn
  | .ld_at_bc_a => .ldBcA
  | .inc_bc => .incWide .bc
  | .inc_b => .inc (.reg .b)
  | .dec_b => .dec (.reg .b)
  | .ld_b_n n => .ld .b (.imm n)
  | .rlca => .rlca
  | .ld_at_nn_sp nn => .ldNnSp nn
  | .add_hl_bc => .addHl .bc
  | .ld_a_at_bc => .ldABc
  | .dec_bc => .decWide .bc
  | .inc_c => .inc (.reg .c)
  | .dec_c => .dec (.reg .c)
  | .ld_c_n n => .ld .c (.imm n)
  | .rrca => .rrca
  | .stop n => .stop n
  | .ld_de_nn nn => .ldWide .de nn
  | .ld_at_de_a => .ldDeA
  | .inc_de => .incWide .de
  | .inc_d => .inc (.reg .d)
  | .dec_d => .dec (.reg .d)
  | .ld_d_n n => .ld .d (.imm n)
  | .rla => .rla
  | .jr_e e => .jr e
  | .add_hl_de => .addHl .de
  | .ld_a_at_de => .ldADe
  | .dec_de => .decWide .de
  | .inc_e => .inc (.reg .e)
  | .dec_e => .dec (.reg .e)
  | .ld_e_n n => .ld .e (.imm n)
  | .rra => .rra
  | .jr_nz_e e => .jrCc .nz e
  | .ld_hl_nn nn => .ldWide .hl nn
  | .ld_at_hli_a => .ldHliA
  | .inc_hl => .incWide .hl
  | .inc_h => .inc (.reg .h)
  | .dec_h => .dec (.reg .h)
  | .ld_h_n n => .ld .h (.imm n)
  | .daa => .daa
  | .jr_z_e e => .jrCc .z e
  | .add_hl_hl => .addHl .hl
  | .ld_a_at_hli => .ldAHli
  | .dec_hl => .decWide .hl
  | .inc_l => .inc (.reg .l)
  | .dec_l => .dec (.reg .l)
  | .ld_l_n n => .ld .l (.imm n)
  | .cpl => .cpl
  | .jr_nc_e e => .jrCc .nc e
  | .ld_sp_nn nn => .ldWide .sp nn
  | .ld_at_hld_a => .ldHldA
  | .inc_sp => .incWide .sp
  | .inc_at_hl => .inc .atHl
  | .dec_at_hl => .dec .atHl
  | .ld_at_hl_n n => .ldHlImm n
  | .scf => .scf
  | .jr_c_e e => .jrCc .c e
  | .add_hl_sp => .addHl .sp
  | .ld_a_at_hld => .ldAHld
  | .dec_sp => .decWide .sp
  | .inc_a => .inc (.reg .a)
  | .dec_a => .dec (.reg .a)
  | .ld_a_n n => .ld .a (.imm n)
  | .ccf => .ccf
  | .ld_b_b => .ld .b (.reg .b)
  | .ld_b_c => .ld .b (.reg .c)
  | .ld_b_d => .ld .b (.reg .d)
  | .ld_b_e => .ld .b (.reg .e)
  | .ld_b_h => .ld .b (.reg .h)
  | .ld_b_l => .ld .b (.reg .l)
  | .ld_b_at_hl => .ld .b .atHl
  | .ld_b_a => .ld .b (.reg .a)
  | .ld_c_b => .ld .c (.reg .b)
  | .ld_c_c => .ld .c (.reg .c)
  | .ld_c_d => .ld .c (.reg .d)
  | .ld_c_e => .ld .c (.reg .e)
  | .ld_c_h => .ld .c (.reg .h)
  | .ld_c_l => .ld .c (.reg .l)
  | .ld_c_at_hl => .ld .c .atHl
  | .ld_c_a => .ld .c (.reg .a)
  | .ld_d_b => .ld .d (.reg .b)
  | .ld_d_c => .ld .d (.reg .c)
  | .ld_d_d => .ld .d (.reg .d)
  | .ld_d_e => .ld .d (.reg .e)
  | .ld_d_h => .ld .d (.reg .h)
  | .ld_d_l => .ld .d (.reg .l)
  | .ld_d_at_hl => .ld .d .atHl
  | .ld_d_a => .ld .d (.reg .a)
  | .ld_e_b => .ld .e (.reg .b)
  | .ld_e_c => .ld .e (.reg .c)
  | .ld_e_d => .ld .e (.reg .d)
  | .ld_e_e => .ld .e (.reg .e)
  | .ld_e_h => .ld .e (.reg .h)
  | .ld_e_l => .ld .e (.reg .l)
  | .ld_e_at_hl => .ld .e .atHl
  | .ld_e_a => .ld .e (.reg .a)
  | .ld_h_b => .ld .h (.reg .b)
  | .ld_h_c => .ld .h (.reg .c)
  | .ld_h_d => .ld .h (.reg .d)
  | .ld_h_e => .ld .h (.reg .e)
  | .ld_h_h => .ld .h (.reg .h)
  | .ld_h_l => .ld .h (.reg .l)
  | .ld_h_at_hl => .ld .h .atHl
  | .ld_h_a => .ld .h (.reg .a)
  | .ld_l_b => .ld .l (.reg .b)
  | .ld_l_c => .ld .l (.reg .c)
  | .ld_l_d => .ld .l (.reg .d)
  | .ld_l_e => .ld .l (.reg .e)
  | .ld_l_h => .ld .l (.reg .h)
  | .ld_l_l => .ld .l (.reg .l)
  | .ld_l_at_hl => .ld .l .atHl
  | .ld_l_a => .ld .l (.reg .a)
  | .ld_at_hl_b => .ldToHl .b
  | .ld_at_hl_c => .ldToHl .c
  | .ld_at_hl_d => .ldToHl .d
  | .ld_at_hl_e => .ldToHl .e
  | .ld_at_hl_h => .ldToHl .h
  | .ld_at_hl_l => .ldToHl .l
  | .halt => .halt
  | .ld_at_hl_a => .ldToHl .a
  | .ld_a_b => .ld .a (.reg .b)
  | .ld_a_c => .ld .a (.reg .c)
  | .ld_a_d => .ld .a (.reg .d)
  | .ld_a_e => .ld .a (.reg .e)
  | .ld_a_h => .ld .a (.reg .h)
  | .ld_a_l => .ld .a (.reg .l)
  | .ld_a_at_hl => .ld .a .atHl
  | .ld_a_a => .ld .a (.reg .a)
  | .add_a_b => .alu .add (.reg .b)
  | .add_a_c => .alu .add (.reg .c)
  | .add_a_d => .alu .add (.reg .d)
  | .add_a_e => .alu .add (.reg .e)
  | .add_a_h => .alu .add (.reg .h)
  | .add_a_l => .alu .add (.reg .l)
  | .add_a_at_hl => .alu .add .atHl
  | .add_a_a => .alu .add (.reg .a)
  | .adc_a_b => .alu .adc (.reg .b)
  | .adc_a_c => .alu .adc (.reg .c)
  | .adc_a_d => .alu .adc (.reg .d)
  | .adc_a_e => .alu .adc (.reg .e)
  | .adc_a_h => .alu .adc (.reg .h)
  | .adc_a_l => .alu .adc (.reg .l)
  | .adc_a_at_hl => .alu .adc .atHl
  | .adc_a_a => .alu .adc (.reg .a)
  | .sub_b => .alu .sub (.reg .b)
  | .sub_c => .alu .sub (.reg .c)
  | .sub_d => .alu .sub (.reg .d)
  | .sub_e => .alu .sub (.reg .e)
  | .sub_h => .alu .sub (.reg .h)
  | .sub_l => .alu .sub (.reg .l)
  | .sub_at_hl => .alu .sub .atHl
  | .sub_a => .alu .sub (.reg .a)
  | .sbc_a_b => .alu .sbc (.reg .b)
  | .sbc_a_c => .alu .sbc (.reg .c)
  | .sbc_a_d => .alu .sbc (.reg .d)
  | .sbc_a_e => .alu .sbc (.reg .e)
  | .sbc_a_h => .alu .sbc (.reg .h)
  | .sbc_a_l => .alu .sbc (.reg .l)
  | .sbc_a_at_hl => .alu .sbc .atHl
  | .sbc_a_a => .alu .sbc (.reg .a)
  | .and_b => .alu .and (.reg .b)
  | .and_c => .alu .and (.reg .c)
  | .and_d => .alu .and (.reg .d)
  | .and_e => .alu .and (.reg .e)
  | .and_h => .alu .and (.reg .h)
  | .and_l => .alu .and (.reg .l)
  | .and_at_hl => .alu .and .atHl
  | .and_a => .alu .and (.reg .a)
  | .xor_b => .alu .xor (.reg .b)
  | .xor_c => .alu .xor (.reg .c)
  | .xor_d => .alu .xor (.reg .d)
  | .xor_e => .alu .xor (.reg .e)
  | .xor_h => .alu .xor (.reg .h)
  | .xor_l => .alu .xor (.reg .l)
  | .xor_at_hl => .alu .xor .atHl
  | .xor_a => .alu .xor (.reg .a)
  | .or_b => .alu .or (.reg .b)
  | .or_c => .alu .or (.reg .c)
  | .or_d => .alu .or (.reg .d)
  | .or_e => .alu .or (.reg .e)
  | .or_h => .alu .or (.reg .h)
  | .or_l => .alu .or (.reg .l)
  | .or_at_hl => .alu .or .atHl
  | .or_a => .alu .or (.reg .a)
  | .cp_b => .alu .cp (.reg .b)
  | .cp_c => .alu .cp (.reg .c)
  | .cp_d => .alu .cp (.reg .d)
  | .cp_e => .alu .cp (.reg .e)
  | .cp_h => .alu .cp (.reg .h)
  | .cp_l => .alu .cp (.reg .l)
  | .cp_at_hl => .alu .cp .atHl
  | .cp_a => .alu .cp (.reg .a)
  | .ret_nz => .retCc .nz
  | .pop_bc => .pop .bc
  | .jp_nz_nn nn => .jpCc .nz nn
  | .jp_nn nn => .jp nn
  | .call_nz_nn nn => .callCc .nz nn
  | .push_bc => .push .bc
  | .add_a_n n => .alu .add (.imm n)
  | .rst_00 => .rst .o0
  | .ret_z => .retCc .z
  | .ret => .ret
  | .jp_z_nn nn => .jpCc .z nn
  | .prefix_cb => .prefixCb
  | .call_z_nn nn => .callCc .z nn
  | .call_nn nn => .call nn
  | .adc_a_n n => .alu .adc (.imm n)
  | .rst_08 => .rst .o1
  | .ret_nc => .retCc .nc
  | .pop_de => .pop .de
  | .jp_nc_nn nn => .jpCc .nc nn
  | .undef_d3 => .undef .d3
  | .call_nc_nn nn => .callCc .nc nn
  | .push_de => .push .de
  | .sub_n n => .alu .sub (.imm n)
  | .rst_10 => .rst .o2
  | .ret_c => .retCc .c
  | .reti => .reti
  | .jp_c_nn nn => .jpCc .c nn
  | .undef_db => .undef .db
  | .call_c_nn nn => .callCc .c nn
  | .undef_dd => .undef .dd
  | .sbc_a_n n => .alu .sbc (.imm n)
  | .rst_18 => .rst .o3
  | .ldh_at_n_a n => .ldhNA n
  | .pop_hl => .pop .hl
  | .ldh_at_c_a => .ldhCA
  | .undef_e3 => .undef .e3
  | .undef_e4 => .undef .e4
  | .push_hl => .push .hl
  | .and_n n => .alu .and (.imm n)
  | .rst_20 => .rst .o4
  | .add_sp_e e => .addSpE e
  | .jp_hl => .jpHl
  | .ld_at_nn_a nn => .ldNnA nn
  | .undef_eb => .undef .eb
  | .undef_ec => .undef .ec
  | .undef_ed => .undef .ed
  | .xor_n n => .alu .xor (.imm n)
  | .rst_28 => .rst .o5
  | .ldh_a_at_n n => .ldhAN n
  | .pop_af => .pop .af
  | .ldh_a_at_c => .ldhAC
  | .di => .di
  | .undef_f4 => .undef .f4
  | .push_af => .push .af
  | .or_n n => .alu .or (.imm n)
  | .rst_30 => .rst .o6
  | .ld_hl_sp_e e => .ldHlSpE e
  | .ld_sp_hl => .ldSpHl
  | .ld_a_at_nn nn => .ldANn nn
  | .ei => .ei
  | .undef_fc => .undef .fc
  | .undef_fd => .undef .fd
  | .cp_n n => .alu .cp (.imm n)
  | .rst_38 => .rst .o7
  | .rlc_b => .rot .rlc (.reg .b)
  | .rlc_c => .rot .rlc (.reg .c)
  | .rlc_d => .rot .rlc (.reg .d)
  | .rlc_e => .rot .rlc (.reg .e)
  | .rlc_h => .rot .rlc (.reg .h)
  | .rlc_l => .rot .rlc (.reg .l)
  | .rlc_at_hl => .rot .rlc .atHl
  | .rlc_a => .rot .rlc (.reg .a)
  | .rrc_b => .rot .rrc (.reg .b)
  | .rrc_c => .rot .rrc (.reg .c)
  | .rrc_d => .rot .rrc (.reg .d)
  | .rrc_e => .rot .rrc (.reg .e)
  | .rrc_h => .rot .rrc (.reg .h)
  | .rrc_l => .rot .rrc (.reg .l)
  | .rrc_at_hl => .rot .rrc .atHl
  | .rrc_a => .rot .rrc (.reg .a)
  | .rl_b => .rot .rl (.reg .b)
  | .rl_c => .rot .rl (.reg .c)
  | .rl_d => .rot .rl (.reg .d)
  | .rl_e => .rot .rl (.reg .e)
  | .rl_h => .rot .rl (.reg .h)
  | .rl_l => .rot .rl (.reg .l)
  | .rl_at_hl => .rot .rl .atHl
  | .rl_a => .rot .rl (.reg .a)
  | .rr_b => .rot .rr (.reg .b)
  | .rr_c => .rot .rr (.reg .c)
  | .rr_d => .rot .rr (.reg .d)
  | .rr_e => .rot .rr (.reg .e)
  | .rr_h => .rot .rr (.reg .h)
  | .rr_l => .rot .rr (.reg .l)
  | .rr_at_hl => .rot .rr .atHl
  | .rr_a => .rot .rr (.reg .a)
  | .sla_b => .rot .sla (.reg .b)
  | .sla_c => .rot .sla (.reg .c)
  | .sla_d => .rot .sla (.reg .d)
  | .sla_e => .rot .sla (.reg .e)
  | .sla_h => .rot .sla (.reg .h)
  | .sla_l => .rot .sla (.reg .l)
  | .sla_at_hl => .rot .sla .atHl
  | .sla_a => .rot .sla (.reg .a)
  | .sra_b => .rot .sra (.reg .b)
  | .sra_c => .rot .sra (.reg .c)
  | .sra_d => .rot .sra (.reg .d)
  | .sra_e => .rot .sra (.reg .e)
  | .sra_h => .rot .sra (.reg .h)
  | .sra_l => .rot .sra (.reg .l)
  | .sra_at_hl => .rot .sra .atHl
  | .sra_a => .rot .sra (.reg .a)
  | .swap_b => .rot .swap (.reg .b)
  | .swap_c => .rot .swap (.reg .c)
  | .swap_d => .rot .swap (.reg .d)
  | .swap_e => .rot .swap (.reg .e)
  | .swap_h => .rot .swap (.reg .h)
  | .swap_l => .rot .swap (.reg .l)
  | .swap_at_hl => .rot .swap .atHl
  | .swap_a => .rot .swap (.reg .a)
  | .srl_b => .rot .srl (.reg .b)
  | .srl_c => .rot .srl (.reg .c)
  | .srl_d => .rot .srl (.reg .d)
  | .srl_e => .rot .srl (.reg .e)
  | .srl_h => .rot .srl (.reg .h)
  | .srl_l => .rot .srl (.reg .l)
  | .srl_at_hl => .rot .srl .atHl
  | .srl_a => .rot .srl (.reg .a)
  | .bit_0_b => .bit .o0 (.reg .b)
  | .bit_0_c => .bit .o0 (.reg .c)
  | .bit_0_d => .bit .o0 (.reg .d)
  | .bit_0_e => .bit .o0 (.reg .e)
  | .bit_0_h => .bit .o0 (.reg .h)
  | .bit_0_l => .bit .o0 (.reg .l)
  | .bit_0_at_hl => .bit .o0 .atHl
  | .bit_0_a => .bit .o0 (.reg .a)
  | .bit_1_b => .bit .o1 (.reg .b)
  | .bit_1_c => .bit .o1 (.reg .c)
  | .bit_1_d => .bit .o1 (.reg .d)
  | .bit_1_e => .bit .o1 (.reg .e)
  | .bit_1_h => .bit .o1 (.reg .h)
  | .bit_1_l => .bit .o1 (.reg .l)
  | .bit_1_at_hl => .bit .o1 .atHl
  | .bit_1_a => .bit .o1 (.reg .a)
  | .bit_2_b => .bit .o2 (.reg .b)
  | .bit_2_c => .bit .o2 (.reg .c)
  | .bit_2_d => .bit .o2 (.reg .d)
  | .bit_2_e => .bit .o2 (.reg .e)
  | .bit_2_h => .bit .o2 (.reg .h)
  | .bit_2_l => .bit .o2 (.reg .l)
  | .bit_2_at_hl => .bit .o2 .atHl
  | .bit_2_a => .bit .o2 (.reg .a)
  | .bit_3_b => .bit .o3 (.reg .b)
  | .bit_3_c => .bit .o3 (.reg .c)
  | .bit_3_d => .bit .o3 (.reg .d)
  | .bit_3_e => .bit .o3 (.reg .e)
  | .bit_3_h => .bit .o3 (.reg .h)
  | .bit_3_l => .bit .o3 (.reg .l)
  | .bit_3_at_hl => .bit .o3 .atHl
  | .bit_3_a => .bit .o3 (.reg .a)
  | .bit_4_b => .bit .o4 (.reg .b)
  | .bit_4_c => .bit .o4 (.reg .c)
  | .bit_4_d => .bit .o4 (.reg .d)
  | .bit_4_e => .bit .o4 (.reg .e)
  | .bit_4_h => .bit .o4 (.reg .h)
  | .bit_4_l => .bit .o4 (.reg .l)
  | .bit_4_at_hl => .bit .o4 .atHl
  | .bit_4_a => .bit .o4 (.reg .a)
  | .bit_5_b => .bit .o5 (.reg .b)
  | .bit_5_c => .bit .o5 (.reg .c)
  | .bit_5_d => .bit .o5 (.reg .d)
  | .bit_5_e => .bit .o5 (.reg .e)
  | .bit_5_h => .bit .o5 (.reg .h)
  | .bit_5_l => .bit .o5 (.reg .l)
  | .bit_5_at_hl => .bit .o5 .atHl
  | .bit_5_a => .bit .o5 (.reg .a)
  | .bit_6_b => .bit .o6 (.reg .b)
  | .bit_6_c => .bit .o6 (.reg .c)
  | .bit_6_d => .bit .o6 (.reg .d)
  | .bit_6_e => .bit .o6 (.reg .e)
  | .bit_6_h => .bit .o6 (.reg .h)
  | .bit_6_l => .bit .o6 (.reg .l)
  | .bit_6_at_hl => .bit .o6 .atHl
  | .bit_6_a => .bit .o6 (.reg .a)
  | .bit_7_b => .bit .o7 (.reg .b)
  | .bit_7_c => .bit .o7 (.reg .c)
  | .bit_7_d => .bit .o7 (.reg .d)
  | .bit_7_e => .bit .o7 (.reg .e)
  | .bit_7_h => .bit .o7 (.reg .h)
  | .bit_7_l => .bit .o7 (.reg .l)
  | .bit_7_at_hl => .bit .o7 .atHl
  | .bit_7_a => .bit .o7 (.reg .a)
  | .res_0_b => .res .o0 (.reg .b)
  | .res_0_c => .res .o0 (.reg .c)
  | .res_0_d => .res .o0 (.reg .d)
  | .res_0_e => .res .o0 (.reg .e)
  | .res_0_h => .res .o0 (.reg .h)
  | .res_0_l => .res .o0 (.reg .l)
  | .res_0_at_hl => .res .o0 .atHl
  | .res_0_a => .res .o0 (.reg .a)
  | .res_1_b => .res .o1 (.reg .b)
  | .res_1_c => .res .o1 (.reg .c)
  | .res_1_d => .res .o1 (.reg .d)
  | .res_1_e => .res .o1 (.reg .e)
  | .res_1_h => .res .o1 (.reg .h)
  | .res_1_l => .res .o1 (.reg .l)
  | .res_1_at_hl => .res .o1 .atHl
  | .res_1_a => .res .o1 (.reg .a)
  | .res_2_b => .res .o2 (.reg .b)
  | .res_2_c => .res .o2 (.reg .c)
  | .res_2_d => .res .o2 (.reg .d)
  | .res_2_e => .res .o2 (.reg .e)
  | .res_2_h => .res .o2 (.reg .h)
  | .res_2_l => .res .o2 (.reg .l)
  | .res_2_at_hl => .res .o2 .atHl
  | .res_2_a => .res .o2 (.reg .a)
  | .res_3_b => .res .o3 (.reg .b)
  | .res_3_c => .res .o3 (.reg .c)
  | .res_3_d => .res .o3 (.reg .d)
  | .res_3_e => .res .o3 (.reg .e)
  | .res_3_h => .res .o3 (.reg .h)
  | .res_3_l => .res .o3 (.reg .l)
  | .res_3_at_hl => .res .o3 .atHl
  | .res_3_a => .res .o3 (.reg .a)
  | .res_4_b => .res .o4 (.reg .b)
  | .res_4_c => .res .o4 (.reg .c)
  | .res_4_d => .res .o4 (.reg .d)
  | .res_4_e => .res .o4 (.reg .e)
  | .res_4_h => .res .o4 (.reg .h)
  | .res_4_l => .res .o4 (.reg .l)
  | .res_4_at_hl => .res .o4 .atHl
  | .res_4_a => .res .o4 (.reg .a)
  | .res_5_b => .res .o5 (.reg .b)
  | .res_5_c => .res .o5 (.reg .c)
  | .res_5_d => .res .o5 (.reg .d)
  | .res_5_e => .res .o5 (.reg .e)
  | .res_5_h => .res .o5 (.reg .h)
  | .res_5_l => .res .o5 (.reg .l)
  | .res_5_at_hl => .res .o5 .atHl
  | .res_5_a => .res .o5 (.reg .a)
  | .res_6_b => .res .o6 (.reg .b)
  | .res_6_c => .res .o6 (.reg .c)
  | .res_6_d => .res .o6 (.reg .d)
  | .res_6_e => .res .o6 (.reg .e)
  | .res_6_h => .res .o6 (.reg .h)
  | .res_6_l => .res .o6 (.reg .l)
  | .res_6_at_hl => .res .o6 .atHl
  | .res_6_a => .res .o6 (.reg .a)
  | .res_7_b => .res .o7 (.reg .b)
  | .res_7_c => .res .o7 (.reg .c)
  | .res_7_d => .res .o7 (.reg .d)
  | .res_7_e => .res .o7 (.reg .e)
  | .res_7_h => .res .o7 (.reg .h)
  | .res_7_l => .res .o7 (.reg .l)
  | .res_7_at_hl => .res .o7 .atHl
  | .res_7_a => .res .o7 (.reg .a)
  | .set_0_b => .set .o0 (.reg .b)
  | .set_0_c => .set .o0 (.reg .c)
  | .set_0_d => .set .o0 (.reg .d)
  | .set_0_e => .set .o0 (.reg .e)
  | .set_0_h => .set .o0 (.reg .h)
  | .set_0_l => .set .o0 (.reg .l)
  | .set_0_at_hl => .set .o0 .atHl
  | .set_0_a => .set .o0 (.reg .a)
  | .set_1_b => .set .o1 (.reg .b)
  | .set_1_c => .set .o1 (.reg .c)
  | .set_1_d => .set .o1 (.reg .d)
  | .set_1_e => .set .o1 (.reg .e)
  | .set_1_h => .set .o1 (.reg .h)
  | .set_1_l => .set .o1 (.reg .l)
  | .set_1_at_hl => .set .o1 .atHl
  | .set_1_a => .set .o1 (.reg .a)
  | .set_2_b => .set .o2 (.reg .b)
  | .set_2_c => .set .o2 (.reg .c)
  | .set_2_d => .set .o2 (.reg .d)
  | .set_2_e => .set .o2 (.reg .e)
  | .set_2_h => .set .o2 (.reg .h)
  | .set_2_l => .set .o2 (.reg .l)
  | .set_2_at_hl => .set .o2 .atHl
  | .set_2_a => .set .o2 (.reg .a)
  | .set_3_b => .set .o3 (.reg .b)
  | .set_3_c => .set .o3 (.reg .c)
  | .set_3_d => .set .o3 (.reg .d)
  | .set_3_e => .set .o3 (.reg .e)
  | .set_3_h => .set .o3 (.reg .h)
  | .set_3_l => .set .o3 (.reg .l)
  | .set_3_at_hl => .set .o3 .atHl
  | .set_3_a => .set .o3 (.reg .a)
  | .set_4_b => .set .o4 (.reg .b)
  | .set_4_c => .set .o4 (.reg .c)
  | .set_4_d => .set .o4 (.reg .d)
  | .set_4_e => .set .o4 (.reg .e)
  | .set_4_h => .set .o4 (.reg .h)
  | .set_4_l => .set .o4 (.reg .l)
  | .set_4_at_hl => .set .o4 .atHl
  | .set_4_a => .set .o4 (.reg .a)
  | .set_5_b => .set .o5 (.reg .b)
  | .set_5_c => .set .o5 (.reg .c)
  | .set_5_d => .set .o5 (.reg .d)
  | .set_5_e => .set .o5 (.reg .e)
  | .set_5_h => .set .o5 (.reg .h)
  | .set_5_l => .set .o5 (.reg .l)
  | .set_5_at_hl => .set .o5 .atHl
  | .set_5_a => .set .o5 (.reg .a)
  | .set_6_b => .set .o6 (.reg .b)
  | .set_6_c => .set .o6 (.reg .c)
  | .set_6_d => .set .o6 (.reg .d)
  | .set_6_e => .set .o6 (.reg .e)
  | .set_6_h => .set .o6 (.reg .h)
  | .set_6_l => .set .o6 (.reg .l)
  | .set_6_at_hl => .set .o6 .atHl
  | .set_6_a => .set .o6 (.reg .a)
  | .set_7_b => .set .o7 (.reg .b)
  | .set_7_c => .set .o7 (.reg .c)
  | .set_7_d => .set .o7 (.reg .d)
  | .set_7_e => .set .o7 (.reg .e)
  | .set_7_h => .set .o7 (.reg .h)
  | .set_7_l => .set .o7 (.reg .l)
  | .set_7_at_hl => .set .o7 .atHl
  | .set_7_a => .set .o7 (.reg .a)

/-! ## Formats and lengths (R60, R61) -/

/-- The length in bytes of a format: for an extended entry 1, the prefix having been counted in its own
step (R60, R61, D24). -/
def Format.length : Format → Nat
  | .op1 | .cb => 1
  | .op2n | .op2e => 2
  | .op3 => 3

/-- The format that the operand of an 8-bit source asks for in the base table (R61). -/
def Src8.format : Src8 → Format
  | .reg _ | .atHl => .op1
  | .imm _ => .op2n

/-- The format of each form (R61, column "used by"). -/
def Form.format : Form → Format
  | .ld _ src | .alu _ src => src.format
  | .ldHlImm _ | .ldhAN _ | .ldhNA _ | .stop _ => .op2n
  | .ldHlSpE _ | .addSpE _ | .jr _ | .jrCc _ _ => .op2e
  | .ldANn _ | .ldNnA _ | .ldWide _ _ | .ldNnSp _ | .jp _ | .jpCc _ _ | .call _ | .callCc _ _ => .op3
  | .rot _ _ | .bit _ _ | .res _ _ | .set _ _ => .cb
  | .ldToHl _ | .ldABc | .ldADe | .ldBcA | .ldDeA | .ldhAC | .ldhCA | .ldHliA | .ldAHli | .ldHldA | .ldAHld => .op1
  | .ldSpHl | .push _ | .pop _ | .inc _ | .dec _ | .daa | .cpl | .scf | .ccf => .op1
  | .addHl _ | .incWide _ | .decWide _ | .rlca | .rla | .rrca | .rra => .op1
  | .jpHl | .ret | .retCc _ | .reti | .rst _ | .nop | .halt | .di | .ei | .prefixCb | .undef _ => .op1

/-- The descriptor's byte length of an instruction (R60), by which PC advances (R85). -/
def Instr.length (i : Instr) : Nat := i.form.format.length

/-- The instruction stands in the extended table (format CB, R61). -/
def Instr.isExtended (i : Instr) : Bool := i.form.format == .cb

/-! ## Field codes (R63 to R67) -/

/-- 8-bit operand codes (R63). -/
def OpReg.code : OpReg → BitVec 3
  | .b => 0 | .c => 1 | .d => 2 | .e => 3 | .h => 4 | .l => 5 | .a => 7

/-- Operand code of a register or of `(HL)`, which is code 6 (R63). -/
def Loc8.code : Loc8 → BitVec 3
  | .reg r => r.code
  | .atHl => 6

/-- Table `rp` (R64). -/
def WideReg.code : WideReg → BitVec 2
  | .bc => 0 | .de => 1 | .hl => 2 | .sp => 3

/-- Table `rp2` (R64). -/
def Pair.code : Pair → BitVec 2
  | .bc => 0 | .de => 1 | .hl => 2 | .af => 3

/-- Condition codes (R65). -/
def Cond.code : Cond → BitVec 2
  | .nz => 0 | .z => 1 | .nc => 2 | .c => 3

/-- `alu[y]` (R66). -/
def AluOp.code : AluOp → BitVec 3
  | .add => 0 | .adc => 1 | .sub => 2 | .sbc => 3 | .and => 4 | .xor => 5 | .or => 6 | .cp => 7

/-- `rot[y]` (R66). -/
def RotOp.code : RotOp → BitVec 3
  | .rlc => 0 | .rrc => 1 | .rl => 2 | .rr => 3 | .sla => 4 | .sra => 5 | .swap => 6 | .srl => 7

/-- The field y as a number 0 to 7 (R67 d, e). -/
def Oct.code : Oct → BitVec 3
  | .o0 => 0 | .o1 => 1 | .o2 => 2 | .o3 => 3 | .o4 => 4 | .o5 => 5 | .o6 => 6 | .o7 => 7

/-- The opcodes with no defined behaviour (R70). -/
def Undef.opcode : Undef → Byte
  | .d3 => 0xD3 | .db => 0xDB | .dd => 0xDD | .e3 => 0xE3 | .e4 => 0xE4 | .eb => 0xEB
  | .ec => 0xEC | .ed => 0xED | .f4 => 0xF4 | .fc => 0xFC | .fd => 0xFD

/-- An opcode byte from its fields x = [7:6], y = [5:3], z = [2:0] (R62). -/
def opcodeXyz (x : BitVec 2) (y z : BitVec 3) : Byte := x ++ y ++ z

/-- An opcode byte from its fields x = [7:6], p = [5:4], q = [3], z = [2:0] (R62). -/
def opcodeXpqz (x p : BitVec 2) (q : BitVec 1) (z : BitVec 3) : Byte := x ++ p ++ q ++ z

/-! ## The encoder -/

/-- The opcode byte of each form, from the "Encoding" line of its rule. -/
def Form.opcode : Form → Byte
  | .ld dst (.reg r) => opcodeXyz 1 dst.code r.code      -- R100: 01 yyy zzz
  | .ld dst (.imm _) => opcodeXyz 0 dst.code 6         -- R101: 00 yyy 110
  | .ld dst .atHl => opcodeXyz 1 dst.code 6            -- R102: 01 yyy 110
  | .ldToHl r => opcodeXyz 1 6 r.code                  -- R103: 01 110 zzz
  | .ldHlImm _ => 0x36                                 -- R104
  | .ldABc => 0x0A                                     -- R105
  | .ldADe => 0x1A                                     -- R106
  | .ldBcA => 0x02                                     -- R107
  | .ldDeA => 0x12                                     -- R108
  | .ldANn _ => 0xFA                                   -- R109
  | .ldNnA _ => 0xEA                                   -- R110
  | .ldhAN _ => 0xF0                                   -- R111
  | .ldhNA _ => 0xE0                                   -- R112
  | .ldhAC => 0xF2                                     -- R113
  | .ldhCA => 0xE2                                     -- R114
  | .ldHliA => 0x22                                    -- R115
  | .ldAHli => 0x2A                                    -- R116
  | .ldHldA => 0x32                                    -- R117
  | .ldAHld => 0x3A                                    -- R118
  | .ldWide rr _ => opcodeXpqz 0 rr.code 0 1           -- R132: 00 pp0 001
  | .ldNnSp _ => 0x08                                  -- R133
  | .ldSpHl => 0xF9                                    -- R134
  | .ldHlSpE _ => 0xF8                                 -- R135
  | .push p => opcodeXpqz 3 p.code 0 5                 -- R136: 11 pp0 101
  | .pop p => opcodeXpqz 3 p.code 0 1                  -- R137, R138: 11 pp0 001
  | .alu op (.reg r) => opcodeXyz 2 op.code r.code     -- R160 and on: 10 yyy zzz
  | .alu op .atHl => opcodeXyz 2 op.code 6             -- R161 and on: 10 yyy 110
  | .alu op (.imm _) => opcodeXyz 3 op.code 6          -- R162 and on: 11 yyy 110
  | .inc x => opcodeXyz 0 x.code 4                     -- R184, R185: 00 yyy 100
  | .dec x => opcodeXyz 0 x.code 5                     -- R186, R187: 00 yyy 101
  | .daa => 0x27                                       -- R188
  | .cpl => 0x2F                                       -- R189
  | .scf => 0x37                                       -- R190
  | .ccf => 0x3F                                       -- R191
  | .addHl rr => opcodeXpqz 0 rr.code 1 1              -- R201: 00 pp1 001
  | .incWide rr => opcodeXpqz 0 rr.code 0 3            -- R202: 00 pp0 011
  | .decWide rr => opcodeXpqz 0 rr.code 1 3            -- R203: 00 pp1 011
  | .addSpE _ => 0xE8                                  -- R204
  | .rlca => 0x07                                      -- R221
  | .rla => 0x17                                       -- R222
  | .rrca => 0x0F                                      -- R223
  | .rra => 0x1F                                       -- R224
  | .rot op x => opcodeXyz 0 op.code x.code            -- R225 to R240: 00 yyy zzz
  | .bit b x => opcodeXyz 1 b.code x.code              -- R241, R242: 01 bbb zzz
  | .res b x => opcodeXyz 2 b.code x.code              -- R243, R244: 10 bbb zzz
  | .set b x => opcodeXyz 3 b.code x.code              -- R245, R246: 11 bbb zzz
  | .jp _ => 0xC3                                      -- R251
  | .jpCc cc _ => opcodeXpqz 3 (0#1 ++ cc.code.extractLsb' 1 1) (cc.code.extractLsb' 0 1) 2    -- R252: 11 0cc 010
  | .jpHl => 0xE9                                      -- R253
  | .jr _ => 0x18                                      -- R254
  | .jrCc cc _ => opcodeXpqz 0 (1#1 ++ cc.code.extractLsb' 1 1) (cc.code.extractLsb' 0 1) 0    -- R255: 00 1cc 000
  | .call _ => 0xCD                                    -- R256
  | .callCc cc _ => opcodeXpqz 3 (0#1 ++ cc.code.extractLsb' 1 1) (cc.code.extractLsb' 0 1) 4  -- R257: 11 0cc 100
  | .ret => 0xC9                                       -- R258
  | .retCc cc => opcodeXpqz 3 (0#1 ++ cc.code.extractLsb' 1 1) (cc.code.extractLsb' 0 1) 0     -- R259: 11 0cc 000
  | .reti => 0xD9                                      -- R260
  | .rst y => opcodeXyz 3 y.code 7                     -- R261: 11 yyy 111
  | .nop => 0x00                                       -- R270
  | .halt => 0x76                                      -- R271
  | .stop _ => 0x10                                    -- R272
  | .di => 0xF3                                        -- R273
  | .ei => 0xFB                                        -- R274
  | .prefixCb => Config.prefixByte                     -- R275
  | .undef u => u.opcode                               -- R276

/-- The operand byte of an immediate source (R67 a). -/
def Src8.operandBytes : Src8 → List Byte
  | .reg _ | .atHl => []
  | .imm n => [n]

/-- The operand bytes that follow the opcode, at increasing addresses (R61, R67): a word low byte first. -/
def Form.operandBytes : Form → List Byte
  | .ld _ src | .alu _ src => src.operandBytes
  | .ldHlImm n | .ldhAN n | .ldhNA n | .stop n => [n]
  | .ldHlSpE e | .addSpE e | .jr e | .jrCc _ e => [e]
  | .ldANn nn | .ldNnA nn | .ldWide _ nn | .ldNnSp nn | .jp nn | .jpCc _ nn | .call nn | .callCc _ nn =>
    [loByte nn, hiByte nn]
  | .ldToHl _ | .ldABc | .ldADe | .ldBcA | .ldDeA | .ldhAC | .ldhCA | .ldHliA | .ldAHli | .ldHldA | .ldAHld => []
  | .ldSpHl | .push _ | .pop _ | .inc _ | .dec _ | .daa | .cpl | .scf | .ccf => []
  | .addHl _ | .incWide _ | .decWide _ | .rlca | .rla | .rrca | .rra => []
  | .rot _ _ | .bit _ _ | .res _ _ | .set _ _ => []
  | .jpHl | .ret | .retCc _ | .reti | .rst _ | .nop | .halt | .di | .ei | .prefixCb | .undef _ => []

/-- The bytes of an instruction, the byte at the lowest address first: the opcode byte, then its operand
bytes (R61). The prefix before an extended opcode is an instruction of its own (`PREFIX CB`, R60, R275). -/
def encode (i : Instr) : List Byte :=
  i.form.opcode :: i.form.operandBytes

/-! ## The two tables (R68, R69) -/

/-- Row 0x0x of the base table (R68). -/
def baseRow0 (n : Byte) (nn : Word) : Vector Instr 16 :=
  #v[.nop, .ld_bc_nn nn, .ld_at_bc_a, .inc_bc,
     .inc_b, .dec_b, .ld_b_n n, .rlca,
     .ld_at_nn_sp nn, .add_hl_bc, .ld_a_at_bc, .dec_bc,
     .inc_c, .dec_c, .ld_c_n n, .rrca]

/-- Row 0x1x of the base table (R68). -/
def baseRow1 (n : Byte) (nn : Word) : Vector Instr 16 :=
  #v[.stop n, .ld_de_nn nn, .ld_at_de_a, .inc_de,
     .inc_d, .dec_d, .ld_d_n n, .rla,
     .jr_e n, .add_hl_de, .ld_a_at_de, .dec_de,
     .inc_e, .dec_e, .ld_e_n n, .rra]

/-- Row 0x2x of the base table (R68). -/
def baseRow2 (n : Byte) (nn : Word) : Vector Instr 16 :=
  #v[.jr_nz_e n, .ld_hl_nn nn, .ld_at_hli_a, .inc_hl,
     .inc_h, .dec_h, .ld_h_n n, .daa,
     .jr_z_e n, .add_hl_hl, .ld_a_at_hli, .dec_hl,
     .inc_l, .dec_l, .ld_l_n n, .cpl]

/-- Row 0x3x of the base table (R68). -/
def baseRow3 (n : Byte) (nn : Word) : Vector Instr 16 :=
  #v[.jr_nc_e n, .ld_sp_nn nn, .ld_at_hld_a, .inc_sp,
     .inc_at_hl, .dec_at_hl, .ld_at_hl_n n, .scf,
     .jr_c_e n, .add_hl_sp, .ld_a_at_hld, .dec_sp,
     .inc_a, .dec_a, .ld_a_n n, .ccf]

/-- Row 0x4x of the base table (R68). -/
def baseRow4 (_n : Byte) (_nn : Word) : Vector Instr 16 :=
  #v[.ld_b_b, .ld_b_c, .ld_b_d, .ld_b_e,
     .ld_b_h, .ld_b_l, .ld_b_at_hl, .ld_b_a,
     .ld_c_b, .ld_c_c, .ld_c_d, .ld_c_e,
     .ld_c_h, .ld_c_l, .ld_c_at_hl, .ld_c_a]

/-- Row 0x5x of the base table (R68). -/
def baseRow5 (_n : Byte) (_nn : Word) : Vector Instr 16 :=
  #v[.ld_d_b, .ld_d_c, .ld_d_d, .ld_d_e,
     .ld_d_h, .ld_d_l, .ld_d_at_hl, .ld_d_a,
     .ld_e_b, .ld_e_c, .ld_e_d, .ld_e_e,
     .ld_e_h, .ld_e_l, .ld_e_at_hl, .ld_e_a]

/-- Row 0x6x of the base table (R68). -/
def baseRow6 (_n : Byte) (_nn : Word) : Vector Instr 16 :=
  #v[.ld_h_b, .ld_h_c, .ld_h_d, .ld_h_e,
     .ld_h_h, .ld_h_l, .ld_h_at_hl, .ld_h_a,
     .ld_l_b, .ld_l_c, .ld_l_d, .ld_l_e,
     .ld_l_h, .ld_l_l, .ld_l_at_hl, .ld_l_a]

/-- Row 0x7x of the base table (R68). -/
def baseRow7 (_n : Byte) (_nn : Word) : Vector Instr 16 :=
  #v[.ld_at_hl_b, .ld_at_hl_c, .ld_at_hl_d, .ld_at_hl_e,
     .ld_at_hl_h, .ld_at_hl_l, .halt, .ld_at_hl_a,
     .ld_a_b, .ld_a_c, .ld_a_d, .ld_a_e,
     .ld_a_h, .ld_a_l, .ld_a_at_hl, .ld_a_a]

/-- Row 0x8x of the base table (R68). -/
def baseRow8 (_n : Byte) (_nn : Word) : Vector Instr 16 :=
  #v[.add_a_b, .add_a_c, .add_a_d, .add_a_e,
     .add_a_h, .add_a_l, .add_a_at_hl, .add_a_a,
     .adc_a_b, .adc_a_c, .adc_a_d, .adc_a_e,
     .adc_a_h, .adc_a_l, .adc_a_at_hl, .adc_a_a]

/-- Row 0x9x of the base table (R68). -/
def baseRow9 (_n : Byte) (_nn : Word) : Vector Instr 16 :=
  #v[.sub_b, .sub_c, .sub_d, .sub_e,
     .sub_h, .sub_l, .sub_at_hl, .sub_a,
     .sbc_a_b, .sbc_a_c, .sbc_a_d, .sbc_a_e,
     .sbc_a_h, .sbc_a_l, .sbc_a_at_hl, .sbc_a_a]

/-- Row 0xAx of the base table (R68). -/
def baseRowA (_n : Byte) (_nn : Word) : Vector Instr 16 :=
  #v[.and_b, .and_c, .and_d, .and_e,
     .and_h, .and_l, .and_at_hl, .and_a,
     .xor_b, .xor_c, .xor_d, .xor_e,
     .xor_h, .xor_l, .xor_at_hl, .xor_a]

/-- Row 0xBx of the base table (R68). -/
def baseRowB (_n : Byte) (_nn : Word) : Vector Instr 16 :=
  #v[.or_b, .or_c, .or_d, .or_e,
     .or_h, .or_l, .or_at_hl, .or_a,
     .cp_b, .cp_c, .cp_d, .cp_e,
     .cp_h, .cp_l, .cp_at_hl, .cp_a]

/-- Row 0xCx of the base table (R68). -/
def baseRowC (n : Byte) (nn : Word) : Vector Instr 16 :=
  #v[.ret_nz, .pop_bc, .jp_nz_nn nn, .jp_nn nn,
     .call_nz_nn nn, .push_bc, .add_a_n n, .rst_00,
     .ret_z, .ret, .jp_z_nn nn, .prefix_cb,
     .call_z_nn nn, .call_nn nn, .adc_a_n n, .rst_08]

/-- Row 0xDx of the base table (R68). -/
def baseRowD (n : Byte) (nn : Word) : Vector Instr 16 :=
  #v[.ret_nc, .pop_de, .jp_nc_nn nn, .undef_d3,
     .call_nc_nn nn, .push_de, .sub_n n, .rst_10,
     .ret_c, .reti, .jp_c_nn nn, .undef_db,
     .call_c_nn nn, .undef_dd, .sbc_a_n n, .rst_18]

/-- Row 0xEx of the base table (R68). -/
def baseRowE (n : Byte) (nn : Word) : Vector Instr 16 :=
  #v[.ldh_at_n_a n, .pop_hl, .ldh_at_c_a, .undef_e3,
     .undef_e4, .push_hl, .and_n n, .rst_20,
     .add_sp_e n, .jp_hl, .ld_at_nn_a nn, .undef_eb,
     .undef_ec, .undef_ed, .xor_n n, .rst_28]

/-- Row 0xFx of the base table (R68). -/
def baseRowF (n : Byte) (nn : Word) : Vector Instr 16 :=
  #v[.ldh_a_at_n n, .pop_af, .ldh_a_at_c, .di,
     .undef_f4, .push_af, .or_n n, .rst_30,
     .ld_hl_sp_e n, .ld_sp_hl, .ld_a_at_nn nn, .ei,
     .undef_fc, .undef_fd, .cp_n n, .rst_38]

/-- The base table: opcode `0x<row><column>`, its operand byte `n` (`e` in the signed formats) and its operand
word `nn` (R68, R67). -/
def baseTable (n : Byte) (nn : Word) : Vector (Vector Instr 16) 16 :=
  #v[baseRow0 n nn, baseRow1 n nn, baseRow2 n nn, baseRow3 n nn,
     baseRow4 n nn, baseRow5 n nn, baseRow6 n nn, baseRow7 n nn,
     baseRow8 n nn, baseRow9 n nn, baseRowA n nn, baseRowB n nn,
     baseRowC n nn, baseRowD n nn, baseRowE n nn, baseRowF n nn]

/-- Row 0x0x of the extended table (R69). -/
def extRow0 : Vector Instr 16 :=
  #v[.rlc_b, .rlc_c, .rlc_d, .rlc_e,
     .rlc_h, .rlc_l, .rlc_at_hl, .rlc_a,
     .rrc_b, .rrc_c, .rrc_d, .rrc_e,
     .rrc_h, .rrc_l, .rrc_at_hl, .rrc_a]

/-- Row 0x1x of the extended table (R69). -/
def extRow1 : Vector Instr 16 :=
  #v[.rl_b, .rl_c, .rl_d, .rl_e,
     .rl_h, .rl_l, .rl_at_hl, .rl_a,
     .rr_b, .rr_c, .rr_d, .rr_e,
     .rr_h, .rr_l, .rr_at_hl, .rr_a]

/-- Row 0x2x of the extended table (R69). -/
def extRow2 : Vector Instr 16 :=
  #v[.sla_b, .sla_c, .sla_d, .sla_e,
     .sla_h, .sla_l, .sla_at_hl, .sla_a,
     .sra_b, .sra_c, .sra_d, .sra_e,
     .sra_h, .sra_l, .sra_at_hl, .sra_a]

/-- Row 0x3x of the extended table (R69). -/
def extRow3 : Vector Instr 16 :=
  #v[.swap_b, .swap_c, .swap_d, .swap_e,
     .swap_h, .swap_l, .swap_at_hl, .swap_a,
     .srl_b, .srl_c, .srl_d, .srl_e,
     .srl_h, .srl_l, .srl_at_hl, .srl_a]

/-- Row 0x4x of the extended table (R69). -/
def extRow4 : Vector Instr 16 :=
  #v[.bit_0_b, .bit_0_c, .bit_0_d, .bit_0_e,
     .bit_0_h, .bit_0_l, .bit_0_at_hl, .bit_0_a,
     .bit_1_b, .bit_1_c, .bit_1_d, .bit_1_e,
     .bit_1_h, .bit_1_l, .bit_1_at_hl, .bit_1_a]

/-- Row 0x5x of the extended table (R69). -/
def extRow5 : Vector Instr 16 :=
  #v[.bit_2_b, .bit_2_c, .bit_2_d, .bit_2_e,
     .bit_2_h, .bit_2_l, .bit_2_at_hl, .bit_2_a,
     .bit_3_b, .bit_3_c, .bit_3_d, .bit_3_e,
     .bit_3_h, .bit_3_l, .bit_3_at_hl, .bit_3_a]

/-- Row 0x6x of the extended table (R69). -/
def extRow6 : Vector Instr 16 :=
  #v[.bit_4_b, .bit_4_c, .bit_4_d, .bit_4_e,
     .bit_4_h, .bit_4_l, .bit_4_at_hl, .bit_4_a,
     .bit_5_b, .bit_5_c, .bit_5_d, .bit_5_e,
     .bit_5_h, .bit_5_l, .bit_5_at_hl, .bit_5_a]

/-- Row 0x7x of the extended table (R69). -/
def extRow7 : Vector Instr 16 :=
  #v[.bit_6_b, .bit_6_c, .bit_6_d, .bit_6_e,
     .bit_6_h, .bit_6_l, .bit_6_at_hl, .bit_6_a,
     .bit_7_b, .bit_7_c, .bit_7_d, .bit_7_e,
     .bit_7_h, .bit_7_l, .bit_7_at_hl, .bit_7_a]

/-- Row 0x8x of the extended table (R69). -/
def extRow8 : Vector Instr 16 :=
  #v[.res_0_b, .res_0_c, .res_0_d, .res_0_e,
     .res_0_h, .res_0_l, .res_0_at_hl, .res_0_a,
     .res_1_b, .res_1_c, .res_1_d, .res_1_e,
     .res_1_h, .res_1_l, .res_1_at_hl, .res_1_a]

/-- Row 0x9x of the extended table (R69). -/
def extRow9 : Vector Instr 16 :=
  #v[.res_2_b, .res_2_c, .res_2_d, .res_2_e,
     .res_2_h, .res_2_l, .res_2_at_hl, .res_2_a,
     .res_3_b, .res_3_c, .res_3_d, .res_3_e,
     .res_3_h, .res_3_l, .res_3_at_hl, .res_3_a]

/-- Row 0xAx of the extended table (R69). -/
def extRowA : Vector Instr 16 :=
  #v[.res_4_b, .res_4_c, .res_4_d, .res_4_e,
     .res_4_h, .res_4_l, .res_4_at_hl, .res_4_a,
     .res_5_b, .res_5_c, .res_5_d, .res_5_e,
     .res_5_h, .res_5_l, .res_5_at_hl, .res_5_a]

/-- Row 0xBx of the extended table (R69). -/
def extRowB : Vector Instr 16 :=
  #v[.res_6_b, .res_6_c, .res_6_d, .res_6_e,
     .res_6_h, .res_6_l, .res_6_at_hl, .res_6_a,
     .res_7_b, .res_7_c, .res_7_d, .res_7_e,
     .res_7_h, .res_7_l, .res_7_at_hl, .res_7_a]

/-- Row 0xCx of the extended table (R69). -/
def extRowC : Vector Instr 16 :=
  #v[.set_0_b, .set_0_c, .set_0_d, .set_0_e,
     .set_0_h, .set_0_l, .set_0_at_hl, .set_0_a,
     .set_1_b, .set_1_c, .set_1_d, .set_1_e,
     .set_1_h, .set_1_l, .set_1_at_hl, .set_1_a]

/-- Row 0xDx of the extended table (R69). -/
def extRowD : Vector Instr 16 :=
  #v[.set_2_b, .set_2_c, .set_2_d, .set_2_e,
     .set_2_h, .set_2_l, .set_2_at_hl, .set_2_a,
     .set_3_b, .set_3_c, .set_3_d, .set_3_e,
     .set_3_h, .set_3_l, .set_3_at_hl, .set_3_a]

/-- Row 0xEx of the extended table (R69). -/
def extRowE : Vector Instr 16 :=
  #v[.set_4_b, .set_4_c, .set_4_d, .set_4_e,
     .set_4_h, .set_4_l, .set_4_at_hl, .set_4_a,
     .set_5_b, .set_5_c, .set_5_d, .set_5_e,
     .set_5_h, .set_5_l, .set_5_at_hl, .set_5_a]

/-- Row 0xFx of the extended table (R69). -/
def extRowF : Vector Instr 16 :=
  #v[.set_6_b, .set_6_c, .set_6_d, .set_6_e,
     .set_6_h, .set_6_l, .set_6_at_hl, .set_6_a,
     .set_7_b, .set_7_c, .set_7_d, .set_7_e,
     .set_7_h, .set_7_l, .set_7_at_hl, .set_7_a]

/-- The extended table: opcode `0x<row><column>` (R69). -/
def extTable : Vector (Vector Instr 16) 16 :=
  #v[extRow0, extRow1, extRow2, extRow3,
     extRow4, extRow5, extRow6, extRow7,
     extRow8, extRow9, extRowA, extRowB,
     extRowC, extRowD, extRowE, extRowF]

/-- The entry that the dispatcher selects (R71, R82, R84): `ext` chooses the table, the opcode byte the
entry; `n` and `nn` are the operand byte and the operand word that follow it (R67), taken up by the entries
whose format has them. -/
def tableEntry (ext : Bool) (op n : Byte) (nn : Word) : Instr :=
  let hi := (op.extractLsb' 4 4).toFin
  let lo := (op.extractLsb' 0 4).toFin
  if ext then (extTable.get hi).get lo else ((baseTable n nn).get hi).get lo

/-- Why a list of bytes is no instruction. Neither can happen to the core, which reads as many bytes as it
needs (R76); both are about byte lists that end too early. -/
inductive DecodeError
  | noOpcode      -- the list is empty
  | truncated     -- the operand bytes that the entry's format asks for are missing
  deriving DecidableEq, Repr

/-- Decode the first instruction of a list of bytes, with the extended-prefix flag at `ext`, and give the
bytes after it. The opcode byte alone tells the length (R71). -/
def decode (ext : Bool) : List Byte → Except DecodeError (Instr × List Byte)
  | [] => .error .noOpcode
  | op :: rest =>
    match (tableEntry ext op 0 0).form.format, rest with
    | .op1, rest | .cb, rest => .ok (tableEntry ext op 0 0, rest)
    | .op2n, n :: rest | .op2e, n :: rest => .ok (tableEntry ext op n 0, rest)
    | .op3, lo :: hi :: rest => .ok (tableEntry ext op 0 (joinBytes hi lo), rest)
    | .op2n, [] | .op2e, [] | .op3, [] | .op3, [_] => .error .truncated

/-! ## The opcode table's numbering of bits -/

/-- Byte `k` of an instruction whose bits are `w`, the bits from `nbits` on being 0. -/
def tableByte (nbits w k : Nat) : Byte := BitVec.ofNat 8 ((w % 2 ^ nbits) >>> (8 * k))

/-- The bits are the two-byte spelling of an extended instruction, prefix and extended opcode (R75): two
bytes or more are given and the first is the prefix. -/
def isTwoByteSpelling (nbits w : Nat) : Bool :=
  decide (16 ≤ nbits) && tableByte nbits w 0 == Config.prefixByte

/-- What the decoder reads from an instruction whose bits are `w`. An opcode byte given alone is looked up
in the base table, the one in force after reset; an extended entry is reached by its two-byte spelling,
since a `CB` row's own byte is also a base opcode (log entry 11). -/
def decodeTableWord (nbits w : Nat) : Option Instr :=
  let found :=
    if isTwoByteSpelling nbits w then decode true [tableByte nbits w 1]
    else decode false [tableByte nbits w 0, tableByte nbits w 1, tableByte nbits w 2]
  match found with
  | .ok (i, _) => some i
  | .error _ => none

end Sys2Proof
end

