-- ==== Sys2Proof/Machine/Fetch.lean ====
section
/-! DEFINITION. Fetching (40_dispatch.md R81, R83) and putting an instruction where the next fetch finds it. -/

namespace Sys2Proof.Machine

/-- The instruction at PC in the table that EXT selects (R71, R81, R82, R84): the opcode byte at `pc0`, the
operand byte at `pc0 + 1`, the operand word at `pc0 + 1` (R67), every address modulo 65536. Bytes that the
entry's format does not have are looked at and dropped, which no memory of R48 shows (log 7). -/
def State.fetch (s : State) : Instr :=
  tableEntry s.ext (s.read8 s.pc) (s.read8 (s.pc + 1)) (s.read16 (s.pc + 1))

/-- The three bytes at PC, the longest instruction there is (R60). -/
def State.bytesAtPc (s : State) : List Byte :=
  [s.read8 s.pc, s.read8 (s.pc + 1), s.read8 (s.pc + 2)]

/-- The state with the reference memory: nothing is known of what another collaborator answers, so no bytes can
be put into one (log entry 10). -/
def State.withFlatMemory (s : State) : State := { s with mem := .flat s.mem.cells }

/-- Three bytes written at PC. -/
def State.putBytesAtPc (s : State) (b0 b1 b2 : Byte) : State :=
  ((s.write8 s.pc b0).write8 (s.pc + 1) b1).write8 (s.pc + 2) b2

/-- The state made ready to fetch at PC in the next step, with the flag EXT at `ext`: not halted, and IME
cleared where an interrupt would be dispatched before the fetch. -/
def State.readyToFetch (s : State) (ext : Bool) : State :=
  ((s.setHalt false).setExt ext).setIme (s.ime && s.firstDispatchable.isNone)

end Sys2Proof.Machine
end

