-- ==== Sys2Proof/Machine/Step.lean ====
section
/-! DEFINITION. One step: one iteration of the execution loop (40_dispatch.md R80). -/

namespace Sys2Proof.Machine

/-- One step (R80). Halted: the halted step (R92). Otherwise the interrupt check (R284), then the fetch at
PC, which is the vector if a line was dispatched (R81, R286), in the table that EXT selects; EXT is cleared
before the instruction runs (R80, R84), so that only `PREFIX CB` leaves it set. The advance of PC and the
ticks are in the meaning (R85, R87). -/
def step (s : State) : Host.Outcome State Fault Refusal :=
  if s.halt then .next s.haltedStep
  else exec s.interruptCheck.fetch (s.interruptCheck.setExt false)

/-- The state in which the next step fetches and runs the instruction whose bits are `w`, numbered as the
opcode table numbers them, bits from `nbits` on being zero. Its bytes stand at PC; a two-byte spelling of an
extended instruction (R75) has its second byte there and EXT set, as after its prefix. HALT is cleared, and
IME where an interrupt would be taken before the fetch; a memory other than the reference instance is replaced by
it (log entries 10 and 11). -/
def State.withFetchWord (s : State) (nbits w : Nat) : State :=
  if isTwoByteSpelling nbits w then
    (s.withFlatMemory.write8 s.pc (tableByte nbits w 1)).readyToFetch true
  else
    (s.withFlatMemory.putBytesAtPc (tableByte nbits w 0) (tableByte nbits w 1) (tableByte nbits w 2)).readyToFetch false

end Sys2Proof.Machine
end

