-- ==== Sys2Proof/Safety.lean ====
section
/-! DEFINITION. What counts as a safe state and a safe run. -/

namespace Sys2Proof

open Machine

/-- The invariant of 40_dispatch.md R95 (a) and of the memory's canonical form: the low nibble of F holds
zero (R15) and memory is canonical. The widths of R95 (b) are in the types. -/
def Machine.State.Inv (s : State) : Prop :=
  s.regs.f &&& 0x0F = 0 ∧ s.mem.wf

/-- The step from a state answers a next state: no fault, no refusal (R93). -/
def Machine.State.Steps (s : State) : Prop :=
  ∃ t, step s = .next t

/-- A run of any length from a state meets no fault and no refusal (R93, R94). -/
def Machine.State.RunsForever (s : State) : Prop :=
  ∀ k, ∃ t, Sys2Proof.core.run k s = .next t

end Sys2Proof
end

