-- ==== Sys2Proof/WellFormed.lean ====
section
/-! DEFINITION. Which instructions are well-formed. Every operand's type admits exactly the values its
encoding admits (30_encoding.md R63 to R67: a byte, a word, a named register, a three-bit number), so no
operand needs a check. What remains is the table: an instruction belongs to the base table or to the
extended one, and only one of them is in force in a dispatcher state (R71, R82, R84; log entry 19). -/

namespace Sys2Proof

/-- `i` may be dispatched with the extended-prefix flag at `ext`: its opcode stands in the table that the
flag selects (R71). -/
def Instr.wellFormed (ext : Bool) (i : Instr) : Bool :=
  i.isExtended == ext

end Sys2Proof
end

