-- ==== Sys2Proof/Certificates/Slice0/Obligations.lean ====
section
/-! DEFINITION. The statements for the provers. Instructions are named by their forms (Forms.lean):
`Form.instr` gives the constructor of `Instr` for a form and its operands, every constructor is the
instruction of its own form (Laws, family FormView), so a statement for all operands of a form is one for
every constructor of that shape. The tables under `Sys2Proof.Claims` are the spec's own tables and pseudocode,
written again here from the spec.

Every statement holds of every memory collaborator, the parameter Mem of R48 (log entry 1), but for a clause under
`s.mem.isFlat = true`: what a byte reads after a write is a fact of the reference instance alone (R47), so that clause
says it of the reference instance, beside the clause that says of every instance which writes it is given. -/

namespace Sys2Proof.Claims

open Sys2Proof.Machine

/-! ## What a next state keeps -/

/-- Every register outside `rs`, IME, HALT, EXT and the model's constant are as before. With `.f` outside
`rs` all four flags are as before. -/
def Kept (s t : State) (rs : List Reg8) : Prop :=
  (∀ r, r ∉ rs → t.reg r = s.reg r) ∧ t.ime = s.ime ∧ t.halt = s.halt ∧ t.ext = s.ext ∧
    t.intDispatchTicks = s.intDispatchTicks

/-- Memory, whichever instance it is, is as before, and so every byte of it reads as before. -/
def MemoryKept (s t : State) : Prop := t.mem = s.mem ∧ ∀ x, t.read8 x = s.read8 x

/-- In the reference memory the byte at `a` reads `v` and every other byte reads as before. -/
def ByteReads (s t : State) (a : Word) (v : Byte) : Prop :=
  s.mem.isFlat = true → ∀ x, t.read8 x = if x = a then v else s.read8 x

/-- The one write that memory was given is of the byte `v` at `a`; in the reference memory that byte reads `v`,
every other byte as before. -/
def ByteStored (s t : State) (a : Word) (v : Byte) : Prop :=
  t.mem = s.mem.write a v ∧ ByteReads s t a v

/-- The same by the privileged write variant (R45). -/
def ByteStoredPrivileged (s t : State) (a : Word) (v : Byte) : Prop :=
  t.mem = s.mem.privilegedWrite a v ∧ ByteReads s t a v

/-- The one write that memory was given is of the word `v` at `a`; in the reference memory the low byte is then at
`a`, the high byte at `a + 1` modulo 65536, every other byte as before. -/
def WordStored (s t : State) (a v : Word) : Prop :=
  t.mem = s.mem.writeWord a v ∧
  (s.mem.isFlat = true → ∀ x, t.read8 x =
    if x = a + 1 then v.extractLsb' 8 8 else if x = a then v.extractLsb' 0 8 else s.read8 x)

/-- PC moved past an instruction of `length` bytes and `ticks` went to CYC. -/
def Advanced (s t : State) (length ticks : Nat) : Prop :=
  t.pc = s.pc + BitVec.ofNat 16 length ∧ t.cyc = s.cyc + ticks

/-- PC at `target` and `ticks` to CYC. -/
def Redirected (s t : State) (target : Word) (ticks : Nat) : Prop :=
  t.pc = target ∧ t.cyc = s.cyc + ticks

/-- Only registers in `rs`, PC and CYC differ. -/
def RegsOnly (s t : State) (rs : List Reg8) (length ticks : Nat) : Prop :=
  Kept s t rs ∧ t.sp = s.sp ∧ MemoryKept s t ∧ Advanced s t length ticks

/-- Only PC and CYC differ. -/
def JumpOnly (s t : State) (target : Word) (ticks : Nat) : Prop :=
  Kept s t [] ∧ t.sp = s.sp ∧ MemoryKept s t ∧ Redirected s t target ticks

/-- The word at SP, low byte at SP (R131, R43). -/
def wordAtSp (s : State) : Word := s.read8 (s.sp + 1) ++ s.read8 s.sp

/-! ## Shapes of statements, one per operand pattern -/

/-- The form loads A from the address and changes nothing else. -/
def LoadsAFrom (f : Form) (addr : State → Word) (length ticks : Nat) : Prop :=
  ∀ s, ∃ t, exec f.instr s = .next t ∧ RegsOnly s t [.a] length ticks ∧ t.reg .a = s.read8 (addr s)

/-- The form loads A from HL, then changes HL by `step`. -/
def LoadsAStepping (f : Form) (step : Word) : Prop :=
  ∀ s, ∃ t, exec f.instr s = .next t ∧ RegsOnly s t [.a, .h, .l] 1 8 ∧
    t.reg .a = s.read8 (s.pair .hl) ∧ t.pair .hl = s.pair .hl + step

/-- The form stores the value at the address and changes nothing else. -/
def StoresTo (f : Form) (addr : State → Word) (value : State → Byte) (length ticks : Nat) : Prop :=
  ∀ s, ∃ t, exec f.instr s = .next t ∧ Kept s t [] ∧ t.sp = s.sp ∧
    ByteStored s t (addr s) (value s) ∧ Advanced s t length ticks

/-- The form stores A at HL, then changes HL by `step`. -/
def StoresAStepping (f : Form) (step : Word) : Prop :=
  ∀ s, ∃ t, exec f.instr s = .next t ∧ Kept s t [.h, .l] ∧ t.sp = s.sp ∧
    ByteStored s t (s.pair .hl) (s.reg .a) ∧ t.pair .hl = s.pair .hl + step ∧ Advanced s t 1 8

/-- The second operand of an 8-bit operation (43_alu8.md part 2). -/
def operand (src : Src8) (s : State) : Byte :=
  match src with
  | .reg r => s.reg r.reg
  | .atHl => s.read8 (s.pair .hl)
  | .imm n => n

/-- Length and ticks by operand form (43_alu8.md part 2). -/
def operandLength : Src8 → Nat
  | .reg _ => 1 | .atHl => 1 | .imm _ => 2

/-- Ticks by operand form (43_alu8.md part 2). -/
def operandTicks : Src8 → Nat
  | .reg _ => 4 | .atHl => 8 | .imm _ => 8

/-- `alu` operation: with accumulator, operand and carry before, accumulator and flags after satisfy `P`,
for the register, `(HL)` and immediate forms; only A and F change. -/
def AccResult (op : AluOp) (P : Byte → Byte → Bool → Byte → Flags → Prop) : Prop :=
  ∀ src s, ∃ t, exec (Form.alu op src).instr s = .next t ∧
    RegsOnly s t [.a, .f] (operandLength src) (operandTicks src) ∧
    P (s.reg .a) (operand src s) s.flags.c (t.reg .a) t.flags

/-- A form on an 8-bit location: with value and flags before, value and flags after satisfy `P`, for the
register and `(HL)` forms; only that place and F change. The value after is, for `(HL)`, the byte stored there. -/
def LocResult (f : Loc8 → Form) (P : Byte → Flags → Byte → Flags → Prop) : Prop :=
  (∀ (r : OpReg) (s : State), ∃ t, exec (f (.reg r)).instr s = .next t ∧ RegsOnly s t [r.reg, .f] 1 4 ∧
    P (s.reg r.reg) s.flags (t.reg r.reg) t.flags) ∧
  (∀ s : State, ∃ t v, exec (f .atHl).instr s = .next t ∧ Kept s t [.f] ∧ t.sp = s.sp ∧
    ByteStored s t (s.pair .hl) v ∧ Advanced s t 1 12 ∧ P (s.read8 (s.pair .hl)) s.flags v t.flags)

/-! ## Tables of the spec -/

/-- Condition codes on the bits of F (R65, R250, R14). -/
def condition (cc : Cond) (s : State) : Bool :=
  match cc with
  | .nz => !(s.reg .f).getLsbD 7
  | .z => (s.reg .f).getLsbD 7
  | .nc => !(s.reg .f).getLsbD 4
  | .c => (s.reg .f).getLsbD 4

/-- Lengths by form (R320, column length). -/
def lengthOf : Form → Nat
  | .ldWide _ _ | .ldNnSp _ | .ldANn _ | .ldNnA _ | .jp _ | .jpCc _ _ | .call _ | .callCc _ _ => 3
  | .ld _ src | .alu _ src => operandLength src
  | .ldHlImm _ | .ldhAN _ | .ldhNA _ | .stop _ | .jr _ | .jrCc _ _ | .addSpE _ | .ldHlSpE _ => 2
  | .ldToHl _ | .ldABc | .ldADe | .ldBcA | .ldDeA | .ldhAC | .ldhCA | .ldHliA | .ldAHli | .ldHldA | .ldAHld => 1
  | .ldSpHl | .push _ | .pop _ | .inc _ | .dec _ | .daa | .cpl | .scf | .ccf | .addHl _ | .incWide _ | .decWide _ => 1
  | .rlca | .rla | .rrca | .rra | .rot _ _ | .bit _ _ | .res _ _ | .set _ _ => 1
  | .jpHl | .ret | .retCc _ | .reti | .rst _ | .nop | .halt | .di | .ei | .prefixCb | .undef _ => 1

/-- Ticks of a read and a write of a location (R320). -/
def modifyTicksOf : Loc8 → Nat
  | .reg _ => 4 | .atHl => 12

/-- Ticks of a read of a location (R320). -/
def testTicksOf : Loc8 → Nat
  | .reg _ => 4 | .atHl => 8

/-- Ticks by form (R320): for a conditional form by whether its condition holds. -/
def ticksOf : Form → State → Nat
  | .ld _ src, _ | .alu _ src, _ => operandTicks src
  | .ldToHl _, _ | .ldABc, _ | .ldADe, _ | .ldBcA, _ | .ldDeA, _ | .ldhAC, _ | .ldhCA, _ => 8
  | .ldHliA, _ | .ldAHli, _ | .ldHldA, _ | .ldAHld, _ => 8
  | .ldHlImm _, _ | .ldhAN _, _ | .ldhNA _, _ | .ldWide _ _, _ | .ldHlSpE _, _ | .pop _, _ => 12
  | .ldANn _, _ | .ldNnA _, _ | .push _, _ | .addSpE _, _ => 16
  | .ldNnSp _, _ => 20
  | .ldSpHl, _ | .addHl _, _ | .incWide _, _ | .decWide _, _ => 8
  | .inc x, _ | .dec x, _ | .rot _ x, _ | .res _ x, _ | .set _ x, _ => modifyTicksOf x
  | .bit _ x, _ => testTicksOf x
  | .daa, _ | .cpl, _ | .scf, _ | .ccf, _ | .rlca, _ | .rla, _ | .rrca, _ | .rra, _ => 4
  | .jp _, _ | .ret, _ | .reti, _ | .rst _, _ => 16
  | .jpCc cc _, s => if condition cc s then 16 else 12
  | .jpHl, _ => 4
  | .jr _, _ => 12
  | .jrCc cc _, s => if condition cc s then 12 else 8
  | .call _, _ => 24
  | .callCc cc _, s => if condition cc s then 24 else 12
  | .retCc cc, s => if condition cc s then 20 else 8
  | .nop, _ | .halt, _ | .stop _, _ | .di, _ | .ei, _ | .prefixCb, _ | .undef _, _ => 4

/-- The address of the following instruction. -/
def nextPc (f : Form) (s : State) : Word := s.pc + BitVec.ofNat 16 (lengthOf f)

/-- PC after a form: for the forms of 46_control.md (R251 to R261, the only ones that redirect, R85) their target
or, not taken, the following instruction (R86); for every other form the following instruction. -/
def pcAfter (f : Form) (s : State) : Word :=
  match f with
  | .jp nn | .call nn => nn
  | .jpCc cc nn | .callCc cc nn => if condition cc s then nn else nextPc f s
  | .jpHl => s.pair .hl
  | .jr e => BitVec.ofInt 16 (s.pc.toNat + 2 + e.toInt)
  | .jrCc cc e => if condition cc s then BitVec.ofInt 16 (s.pc.toNat + 2 + e.toInt) else nextPc f s
  | .ret | .reti => wordAtSp s
  | .retCc cc => if condition cc s then wordAtSp s else nextPc f s
  | .rst y => BitVec.ofNat 16 (8 * y.code.toNat)
  | .ld _ _ | .ldToHl _ | .ldHlImm _ | .ldABc | .ldADe | .ldBcA | .ldDeA | .ldANn _ | .ldNnA _ => nextPc f s
  | .ldhAN _ | .ldhNA _ | .ldhAC | .ldhCA | .ldHliA | .ldAHli | .ldHldA | .ldAHld => nextPc f s
  | .ldWide _ _ | .ldNnSp _ | .ldSpHl | .ldHlSpE _ | .push _ | .pop _ => nextPc f s
  | .alu _ _ | .inc _ | .dec _ | .daa | .cpl | .scf | .ccf => nextPc f s
  | .addHl _ | .incWide _ | .decWide _ | .addSpE _ => nextPc f s
  | .rlca | .rla | .rrca | .rra | .rot _ _ | .bit _ _ | .res _ _ | .set _ _ => nextPc f s
  | .nop | .halt | .stop _ | .di | .ei | .prefixCb | .undef _ => nextPc f s

/-- `POP AF` writes all four flags, the other pops none. -/
def popFlags : Pair → Flags
  | .af => ⟨true, true, true, true⟩
  | .bc | .de | .hl => ⟨false, false, false, false⟩

/-- Which of Z, N, H, C a form writes (the summary table of R16; `BIT` keeps C, `DAA` keeps N, and so on). -/
def flagsWritten : Form → Flags
  | .alu _ _ => ⟨true, true, true, true⟩
  | .inc _ | .dec _ | .bit _ _ => ⟨true, true, true, false⟩
  | .daa => ⟨true, false, true, true⟩
  | .cpl => ⟨false, true, true, false⟩
  | .scf | .ccf | .addHl _ => ⟨false, true, true, true⟩
  | .addSpE _ | .ldHlSpE _ | .rlca | .rla | .rrca | .rra | .rot _ _ => ⟨true, true, true, true⟩
  | .pop p => popFlags p
  | .ld _ _ | .ldToHl _ | .ldHlImm _ | .ldABc | .ldADe | .ldBcA | .ldDeA | .ldANn _ | .ldNnA _
  | .ldhAN _ | .ldhNA _ | .ldhAC | .ldhCA | .ldHliA | .ldAHli | .ldHldA | .ldAHld
  | .ldWide _ _ | .ldNnSp _ | .ldSpHl | .push _ | .incWide _ | .decWide _ | .res _ _ | .set _ _
  | .jp _ | .jpCc _ _ | .jpHl | .jr _ | .jrCc _ _ | .call _ | .callCc _ _ | .ret | .retCc _ | .reti | .rst _
  | .nop | .halt | .stop _ | .di | .ei | .prefixCb | .undef _ => ⟨false, false, false, false⟩

/-- The registers of a pair of table `rp`; SP is none of the eight. -/
def wideRegs : WideReg → List Reg8
  | .bc => [.b, .c] | .de => [.d, .e] | .hl => [.h, .l] | .sp => []

/-- The registers other than F that a pop writes. -/
def popRegs : Pair → List Reg8
  | .bc => [.b, .c] | .de => [.d, .e] | .hl => [.h, .l] | .af => [.a]

/-- The register of a location, if it is one. -/
def locRegs : Loc8 → List Reg8
  | .reg r => [r.reg] | .atHl => []

/-- Every two-operand operation writes A but `CP` (R157). -/
def aluRegs : AluOp → List Reg8
  | .cp => []
  | .add | .adc | .sub | .sbc | .and | .xor | .or => [.a]

/-- The registers other than F that a form writes: its destinations and the HL of the stepping loads. -/
def regsWritten : Form → List Reg8
  | .ld dst _ => [dst.reg]
  | .ldABc | .ldADe | .ldANn _ | .ldhAN _ | .ldhAC => [.a]
  | .ldAHli | .ldAHld => [.a, .h, .l]
  | .ldHliA | .ldHldA | .ldHlSpE _ | .addHl _ => [.h, .l]
  | .ldWide rr _ | .incWide rr | .decWide rr => wideRegs rr
  | .pop p => popRegs p
  | .alu op _ => aluRegs op
  | .daa | .cpl | .rlca | .rla | .rrca | .rra => [.a]
  | .inc x | .dec x | .rot _ x | .res _ x | .set _ x => locRegs x
  | .ldToHl _ | .ldHlImm _ | .ldBcA | .ldDeA | .ldNnA _ | .ldhNA _ | .ldhCA | .ldNnSp _ | .ldSpHl | .push _
  | .scf | .ccf | .addSpE _ | .bit _ _
  | .jp _ | .jpCc _ _ | .jpHl | .jr _ | .jrCc _ _ | .call _ | .callCc _ _ | .ret | .retCc _ | .reti | .rst _
  | .nop | .halt | .stop _ | .di | .ei | .prefixCb | .undef _ => []

/-- An operand of table `rp` that is SP. -/
def isSp : WideReg → Bool
  | .sp => true | .bc | .de | .hl => false

/-- The forms that write SP in a state (R12); a call or return not taken does not. -/
def spWritten : Form → State → Bool
  | .ldWide rr _, _ | .incWide rr, _ | .decWide rr, _ => isSp rr
  | .ldSpHl, _ | .addSpE _, _ | .push _, _ | .pop _, _ | .call _, _ | .ret, _ | .reti, _ | .rst _, _ => true
  | .callCc cc _, s | .retCc cc, s => condition cc s
  | .ld _ _, _ | .ldToHl _, _ | .ldHlImm _, _ | .ldABc, _ | .ldADe, _ | .ldBcA, _ | .ldDeA, _ | .ldANn _, _
  | .ldNnA _, _ | .ldhAN _, _ | .ldhNA _, _ | .ldhAC, _ | .ldhCA, _ | .ldHliA, _ | .ldAHli, _ | .ldHldA, _
  | .ldAHld, _ | .ldNnSp _, _ | .ldHlSpE _, _ | .alu _ _, _ | .inc _, _ | .dec _, _ | .daa, _ | .cpl, _ | .scf, _
  | .ccf, _ | .addHl _, _ | .rlca, _ | .rla, _ | .rrca, _ | .rra, _ | .rot _ _, _ | .bit _ _, _ | .res _ _, _
  | .set _ _, _ | .jp _, _ | .jpCc _ _, _ | .jpHl, _ | .jr _, _ | .jrCc _ _, _ | .nop, _ | .halt, _ | .stop _, _
  | .di, _ | .ei, _ | .prefixCb, _ | .undef _, _ => false

/-- The address a read-modify-write of a location stores to, if it is in memory. -/
def locStored : Loc8 → State → List Word
  | .reg _, _ => [] | .atHl, s => [s.hl]

/-- The two addresses a push stores to. -/
def pushStored (s : State) : List Word := [s.sp - 2, s.sp - 2 + 1]

/-- The addresses of the bytes a form stores to, in the state it starts from. -/
def storedAt : Form → State → List Word
  | .ldToHl _, s | .ldHlImm _, s | .ldHliA, s | .ldHldA, s => [s.hl]
  | .ldBcA, s => [s.pair .bc]
  | .ldDeA, s => [s.pair .de]
  | .ldNnA nn, _ => [nn]
  | .ldhNA n, _ => [highPageAddr n]
  | .ldhCA, s => [highPageAddr (s.reg .c)]
  | .ldNnSp nn, _ => [nn, nn + 1]
  | .inc x, s | .dec x, s | .rot _ x, s | .res _ x, s | .set _ x, s => locStored x s
  | .push _, s | .call _, s | .rst _, s => pushStored s
  | .callCc cc _, s => if condition cc s then pushStored s else []
  | .ld _ _, _ | .ldABc, _ | .ldADe, _ | .ldANn _, _ | .ldhAN _, _ | .ldhAC, _ | .ldAHli, _ | .ldAHld, _
  | .ldWide _ _, _ | .ldSpHl, _ | .ldHlSpE _, _ | .pop _, _ | .alu _ _, _ | .daa, _ | .cpl, _ | .scf, _ | .ccf, _
  | .addHl _, _ | .incWide _, _ | .decWide _, _ | .addSpE _, _ | .rlca, _ | .rla, _ | .rrca, _ | .rra, _
  | .bit _ _, _ | .jp _, _ | .jpCc _ _, _ | .jpHl, _ | .jr _, _ | .jrCc _ _, _ | .ret, _ | .retCc _, _ | .reti, _
  | .nop, _ | .halt, _ | .stop _, _ | .di, _ | .ei, _ | .prefixCb, _ | .undef _, _ => []

/-- The bit of IE and IF of each line (R23, R281). -/
def lineBit : Line → Nat
  | .vblank => 0 | .lcd => 1 | .timer => 2 | .serial => 3 | .joypad => 4

/-- The line is enabled and requested, read from the bits of IE at 0xFFFF and IF at 0xFF0F (R282). -/
def enabledAndRequested (s : State) (l : Line) : Bool :=
  (s.read8 0xFFFF).getLsbD (lineBit l) && (s.read8 0xFF0F).getLsbD (lineBit l)

/-- Result bit `k` of a rotate or shift of the bits `b` with the old carry `c` (45_rotate_shift_bit.md part 1,
table of bit movements). -/
def movedBit (op : RotOp) (c : Bool) (b : Nat → Bool) (k : Nat) : Bool :=
  match op with
  | .rlc => if k = 0 then b 7 else b (k - 1)
  | .rl => if k = 0 then c else b (k - 1)
  | .sla => if k = 0 then false else b (k - 1)
  | .rrc => if k = 7 then b 0 else b (k + 1)
  | .rr => if k = 7 then c else b (k + 1)
  | .sra => if k = 7 then b 7 else b (k + 1)
  | .srl => if k = 7 then false else b (k + 1)
  | .swap => b ((k + 4) % 8)

/-- The new carry of a rotate or shift (the same table, column "new C"). -/
def movedCarry (op : RotOp) (b : Nat → Bool) : Bool :=
  match op with
  | .rlc | .rl | .sla => b 7
  | .rrc | .rr | .sra | .srl => b 0
  | .swap => false

/-- A number below 100 as a two-digit BCD byte (R188, S4). -/
def bcd (n : Nat) : Byte := BitVec.ofNat 8 (n / 10 * 16 + n % 10)

end Sys2Proof.Claims

open Sys2Proof Sys2Proof.Machine Sys2Proof.Claims

/-! ## Reset and the state -/

/-- R25, R26: PC = 0 and F = 0 by name; that "zeroed" means every register, SP and the four state flags is the
spec's reading (D4; log entry 3). -/
def Obligations.ResetZeroesRegistersAndFlags : Prop :=
  (∀ r, State.reset.reg r = 0) ∧ State.reset.regs.f = 0x00 ∧ State.reset.sp = 0x0000 ∧
    State.reset.pc = 0x0000 ∧ State.reset.ime = false ∧ State.reset.halt = false ∧
    State.reset.ext = false ∧ State.reset.cyc = 0

/-- The invariant of `StepKeepsInvariant` holds at reset. -/
def Obligations.ResetSatisfiesInvariant : Prop := State.reset.Inv

/-- R11: a pair read is `high * 256 + low`, a pair write stores both halves, and the storage is the
registers': nothing but the two halves changes, and AF's low half obeys R15. -/
def Obligations.PairsAreViewsOfTheRegisters : Prop :=
  ∀ (s : State) (p : Pair) (v : Word),
    (s.pair p).toNat = (s.reg p.hi).toNat * 256 + (s.reg p.lo).toNat ∧
    (s.setPair p v).reg p.hi = v.extractLsb' 8 8 ∧
    (s.setPair p v).reg p.lo = (if p = .af then v.extractLsb' 0 8 &&& 0xF0 else v.extractLsb' 0 8) ∧
    (∀ r, r ≠ p.hi → r ≠ p.lo → (s.setPair p v).reg r = s.reg r) ∧
    (∀ w : Byte, ((s.setReg p.hi w).pair p).toNat = w.toNat * 256 + (s.reg p.lo).toNat) ∧
    (p ≠ .af → ∀ w : Byte, ((s.setReg p.lo w).pair p).toNat = (s.reg p.hi).toNat * 256 + w.toNat)

/-- R14 and R15: every write of F stores `v & 0xF0` (R15), the four flags are bits 7, 6, 5, 4 (R14), and writing the
flags gives them back. That bits 3:0 read as zero in EVERY state, also in AF (the word that `PUSH AF` stores), is
the model's reading of R15 (log entry 14, DEDUCED). -/
def Obligations.FlagRegisterLayoutAndZeroNibble : Prop :=
  ∀ (s : State) (v : Byte) (fl : Flags),
    (s.setReg .f v).regs.f = v &&& 0xF0 ∧ s.reg .f &&& 0x0F = 0 ∧ s.pair .af &&& 0x000F = 0 ∧
    s.flags = ⟨(s.reg .f).getLsbD 7, (s.reg .f).getLsbD 6, (s.reg .f).getLsbD 5, (s.reg .f).getLsbD 4⟩ ∧
    (s.setFlags fl).flags = fl ∧ (s.setFlags fl).regs.f &&& 0x0F = 0

/-- R41, R43, R44: the byte port; the word port is little-endian (R43) and wraps at 0xFFFF (R44, the spec's decision
D13); a word write is, as every observer of the reference memory sees it, the write of its two bytes (R46). Reading
back what was written rests on the reference memory (R48, D27; log entry 1, DEDUCED), every clause about it on that
premise. -/
def Obligations.MemoryPortsAreLittleEndianAndWrap : Prop :=
  ∀ (s : State) (x v : Word) (b : Byte),
    ByteStored s (s.write8 x b) x b ∧
    (s.read16 x).toNat = (s.read8 x).toNat + 256 * (s.read8 (x + 1)).toNat ∧
    WordStored s (s.write16 x v) x v ∧
    (s.mem.isFlat = true →
      (s.write16 x v).read16 x = v ∧
      s.write16 x v = (s.write8 x (v.extractLsb' 0 8)).write8 (x + 1) (v.extractLsb' 8 8)) ∧
    (0xFFFF : Word) + 1 = 0x0000

/-! ## Encoding -/

/-- Decoding the bytes of an instruction, in the table it belongs to and whatever follows, gives it back with
every operand at every value (R60 to R67, R68, R69). -/
def Obligations.DecodeOfEncodeIsTheInstruction : Prop :=
  ∀ (ext : Bool) (i : Instr) (rest : List Byte),
    i.wellFormed ext = true → decode ext (encode i ++ rest) = .ok (i, rest)

/-- The other direction: what decodes is the bytes of the instruction, of the length of its format, in the
table that EXT selects (R71). -/
def Obligations.EncodeOfDecodeIsTheBytes : Prop :=
  ∀ (ext : Bool) (bytes : List Byte) (i : Instr) (rest : List Byte),
    decode ext bytes = .ok (i, rest) →
      encode i ++ rest = bytes ∧ (encode i).length = lengthOf i.form ∧ i.wellFormed ext = true

/-- R76: every byte value selects an entry in both tables, so decoding never fails; exactly one, since the
opcode byte and the table fix the form's opcode. -/
def Obligations.DecodingIsTotalInBothTables : Prop :=
  ∀ (ext : Bool) (op b1 b2 : Byte), ∃ i rest,
    decode ext [op, b1, b2] = .ok (i, rest) ∧ i.isExtended = ext ∧ i.form.opcode = op ∧
    ∀ j, j.isExtended = ext → j.form.opcode = op → j.length = i.length ∧
      (j.length = 1 → j = i)

/-- Words written out from the spec's encodings, one family each: `LD B,C` `01 000 001`, `LD HL,0x1234` little
endian, `ADD A,A` `10 000 111`, `ADD HL,BC` `00 001 001`, `JR NZ,-4`, `CALL 0x1234`, `HALT`, the prefix, and with
EXT = 1 `SWAP A` `00 110 111`, `BIT 7,(HL)` `01 111 110`, `SET 1,E` (R71: 0xCB there is no prefix). -/
def Obligations.WrittenOutWordsDecode : Prop :=
  decode false [0b01000001] = .ok (.ld_b_c, []) ∧
  decode false [0x21, 0x34, 0x12] = .ok (.ld_hl_nn 0x1234, []) ∧
  decode false [0b10000111] = .ok (.add_a_a, []) ∧
  decode false [0b00001001] = .ok (.add_hl_bc, []) ∧
  decode false [0b00100000, 0xFC] = .ok (.jr_nz_e 0xFC, []) ∧
  decode false [0xCD, 0x34, 0x12] = .ok (.call_nn 0x1234, []) ∧
  decode false [0b01110110] = .ok (.halt, []) ∧
  decode false [0xCB, 0x37] = .ok (.prefix_cb, [0x37]) ∧
  decode true [0b00110111] = .ok (.swap_a, []) ∧
  decode true [0b01111110] = .ok (.bit_7_at_hl, []) ∧
  decode true [0xCB] = .ok (.set_1_e, [])

/-! ## The step -/

/-- R80 with no interrupt to dispatch: the step is the meaning of the instruction decoded at PC in the table
that EXT selects, run with EXT cleared (R84). The advance of PC and the ticks are in the meaning (R85, R87). -/
def Obligations.StepRunsDecodedInstruction : Prop :=
  ∀ (s : State) (i : Instr) (rest : List Byte),
    s.halt = false → s.firstDispatchable = none → decode s.ext s.bytesAtPc = .ok (i, rest) →
      step s = exec i (s.setExt false)

/-- R286 (the spec's decision D30), R299: the step that dispatches goes on to the opcode at the vector, read from memory
as the dispatch left it and in the table that EXT selects (R313, D7; log entry 13), and adds INT_DISPATCH_TICKS, the
OPEN parameter that the model holds in `intDispatchTicks` (D10; log entry 4, DESIGN CHOICE). -/
def Obligations.DispatchingStepRunsHandlerOpcode : Prop :=
  ∀ (s : State) (l : Line) (i : Instr) (rest : List Byte),
    s.halt = false → s.firstDispatchable = some l →
    decode s.ext (s.dispatch l).bytesAtPc = .ok (i, rest) →
      step s = exec i (((s.dispatch l).addTicks s.intDispatchTicks).setExt false)

/-- R93, R94: no step of any run from any state, reachable or not, stops. -/
def Obligations.EveryRunGoesOnForEver : Prop :=
  ∀ s : State, s.RunsForever

/-- R85, R86 for PC, R87 and the tick table R320 (D23; log entry 12) for CYC, for EVERY instruction: it completes, PC
is past the instruction or, for the forms that redirect, at their target (for `JR` D14; log entry 12), and CYC grows
by its ticks, taken or not taken. That both are part of the meaning is log entry 15. -/
def Obligations.EveryInstructionMovesPcAndTicks : Prop :=
  ∀ (i : Instr) (s : State), ∃ t, exec i s = .next t ∧
    t.pc = pcAfter i.form s ∧ t.cyc = s.cyc + ticksOf i.form s

/-- R19, R84, R95 (c): after a non-halted step EXT is 1 exactly if the step dispatched the prefix: the base
table's byte 0xCB at the address fetched from, EXT having been 0. The halted step keeps EXT. -/
def Obligations.ExtendedFlagFollowsPrefixOnly : Prop :=
  ∀ s t : State, step s = .next t →
    (s.halt = true → t.ext = s.ext) ∧
    (s.halt = false →
      (t.ext = true ↔ s.ext = false ∧ s.interruptCheck.read8 s.interruptCheck.pc = 0xCB))

/-- R92: the halted step fetches nothing and changes nothing but CYC, by 4 (the spec's decision D9; log entry 12), and
HALT, which a request in IF bits 4:0 clears; no interrupt check and no dispatch (D8; log entry 13). -/
def Obligations.HaltedStepOnlyPollsRequests : Prop :=
  ∀ s : State, s.halt = true →
    step s = .next { s with cyc := s.cyc + 4, halt := decide ((s.read8 0xFF0F).toNat % 32 = 0) }

/-- R289 and the source's scenario: a request of any line, enabled or not, that IF reads wakes a halted core in its
next step, with IE and IME whatever they are, without a dispatch; that halted step is R92's (no dispatch: D8, log
entry 13; its 4 ticks: D9, log entry 12). The address of IF and the bits of the lines are D2 and D3 (log entry 12). In
the reference memory (log entry 1; another collaborator need not answer the raised bit, R47), whichever line is raised
while the core is halted does so, and the request stays. -/
def Obligations.AnyRequestWakesAHaltedCore : Prop :=
  ∀ (s : State) (l : Line), s.halt = true →
    ((s.read8 0xFF0F).getLsbD (lineBit l) = true → step s = .next { s with cyc := s.cyc + 4, halt := false }) ∧
    (s.mem.isFlat = true → ∃ t, step (s.raiseLine l) = .next t ∧
      t.halt = false ∧ t.regs = s.regs ∧ t.pc = s.pc ∧ t.sp = s.sp ∧ t.ime = s.ime ∧
      (t.read8 0xFF0F).getLsbD (lineBit l) = true ∧
      ∀ x, x ≠ 0xFF0F → t.read8 x = s.read8 x)

/-- R17: IME is set by `EI` and `RETI`, cleared by `DI` and by dispatch, and kept by every other instruction
and by the halted step. -/
def Obligations.ImeFollowsItsInstructions : Prop :=
  (∀ (i : Instr) (s t : State), exec i s = .next t →
    t.ime = if i = .ei ∨ i = .reti then true else if i = .di then false else s.ime) ∧
  (∀ (s : State) (l : Line), (s.dispatch l).ime = false) ∧
  (∀ s : State, s.haltedStep.ime = s.ime)

/-- R18, R95 (e): HALT is set by the instruction `HALT` alone; every other instruction and dispatch keep it. -/
def Obligations.HaltFlagSetByHaltOnly : Prop :=
  (∀ (i : Instr) (s t : State), exec i s = .next t → t.halt = if i = .halt then true else s.halt) ∧
  (∀ (s : State) (l : Line), (s.dispatch l).halt = s.halt)

/-- R20, R90, R95 (d): every step adds its ticks, at least 4, to CYC. -/
def Obligations.CycleCounterGrowsEveryStep : Prop :=
  ∀ s t : State, step s = .next t → s.cyc + 4 ≤ t.cyc

/-- R87: "Ticks are an output": what a step does to everything else does not depend on CYC, so a machine that
differs in CYC alone still does after any step, by the same amount. -/
def Obligations.CycleCounterInfluencesNothing : Prop :=
  ∀ (s t : State) (k : Nat), step s = .next t → step (s.addTicks k) = .next (t.addTicks k)

/-! ## Interrupts -/

/-- R282, R283, R284: with IME = 0 nothing is dispatched; with IME = 1 the line found is the one of lowest index (R283)
that is enabled and requested (bit numbers and addresses: D2, D3; log entry 12); then the check dispatches it and adds
INT_DISPATCH_TICKS (R299, OPEN: log entry 4, DESIGN CHOICE), else it changes nothing. -/
def Obligations.InterruptCheckTakesHighestPriority : Prop :=
  ∀ s : State,
    (∀ l, s.firstDispatchable = some l ↔
      s.ime = true ∧ enabledAndRequested s l = true ∧
        ∀ k, lineBit k < lineBit l → enabledAndRequested s k = false) ∧
    (s.firstDispatchable = none ↔ s.ime = false ∨ ∀ l, enabledAndRequested s l = false) ∧
    (s.firstDispatchable = none → s.interruptCheck = s) ∧
    (∀ l, s.firstDispatchable = some l →
      s.interruptCheck = (s.dispatch l).addTicks s.intDispatchTicks)

/-- R285: dispatch of a line: IME cleared, the line's bit of IF cleared and the other seven written back as
read, PC pushed at the new SP, PC at the vector, in that order, so that a push onto IF wins; registers, HALT,
EXT and CYC kept. The vectors are R281's (D3), the layout of the push R130's (D16), IF is at 0xFF0F by D2 (log entry
12). The two writes are stated of every memory, what a byte then reads of the reference instance (log entry 1). -/
def Obligations.DispatchSavesPcAndGoesToVector : Prop :=
  ∀ (s : State) (l : Line),
    (s.dispatch l).ime = false ∧ (s.dispatch l).pc = BitVec.ofNat 16 (0x40 + 8 * lineBit l) ∧
    (s.dispatch l).sp = s.sp - 2 ∧ (s.dispatch l).regs = s.regs ∧ (s.dispatch l).halt = s.halt ∧
    (s.dispatch l).ext = s.ext ∧ (s.dispatch l).cyc = s.cyc ∧
    (s.dispatch l).intDispatchTicks = s.intDispatchTicks ∧
    (s.dispatch l).mem =
      (s.mem.write 0xFF0F (s.read8 0xFF0F &&& ~~~ (1#8 <<< lineBit l))).writeWord (s.sp - 2) s.pc ∧
    (s.mem.isFlat = true → ∀ x, (s.dispatch l).read8 x =
      if x = s.sp - 2 + 1 then s.pc.extractLsb' 8 8
      else if x = s.sp - 2 then s.pc.extractLsb' 0 8
      else if x = 0xFF0F then s.read8 0xFF0F &&& ~~~ (1#8 <<< lineBit l)
      else s.read8 x)

/-- R260, R290: `RETI` right after a dispatch gives back PC and SP and sets IME, and no register has changed;
nothing else was saved and nothing else is restored. PC is what memory answers at the pushed word, which in the
reference memory is the PC pushed. -/
def Obligations.RetiUndoesDispatch : Prop :=
  ∀ (s : State) (l : Line), ∃ t, exec .reti (s.dispatch l) = .next t ∧
    t.pc = wordAtSp (s.dispatch l) ∧ (s.mem.isFlat = true → t.pc = s.pc) ∧
    t.sp = s.sp ∧ t.ime = true ∧ t.regs = s.regs ∧ t.halt = s.halt ∧ t.ext = s.ext

/-- R313 (the hazard; D7): a line dispatched in the step after a prefix. PC, which points at the extended
opcode, is pushed; the byte at the vector runs as an EXTENDED opcode; PC is then vector + 1, EXT and IME 0. -/
def Obligations.InterruptAfterPrefixRunsExtendedHandlerByte : Prop :=
  ∀ (s : State) (l : Line), s.halt = false → s.ext = true → s.firstDispatchable = some l →
    ∃ i t, i.isExtended = true ∧ i.form.opcode = (s.dispatch l).read8 l.vector ∧
      step s = .next t ∧ exec i (((s.dispatch l).addTicks s.intDispatchTicks).setExt false) = .next t ∧
      t.pc = l.vector + 1 ∧ t.ext = false ∧ t.ime = false ∧ t.sp = s.sp - 2

/-- R23, R281 (values D3; log entry 12), R288: the bit and the vector of each line; the four mutators read IE or IF and
write it back with one bit changed, in the reference memory no other byte changing; the predicates read those bits.
The read-modify-write form is R288's own derivation. The write is the privileged one (log entry 18): for raising by
R45, for clear, enable and disable by the model's choice, since R288 leaves the variant open (log entry 20, DESIGN
CHOICE). -/
def Obligations.LineAccessorsActOnOneBit : Prop :=
  Line.byPriority.map lineBit = [0, 1, 2, 3, 4] ∧ Line.byPriority.map Line.mask = [0x01, 0x02, 0x04, 0x08, 0x10] ∧
  Line.byPriority.map Line.vector = [0x0040, 0x0048, 0x0050, 0x0058, 0x0060] ∧
  ∀ (s : State) (l : Line),
    ByteStoredPrivileged s (s.enableLine l) 0xFFFF (s.read8 0xFFFF ||| 1#8 <<< lineBit l) ∧
    ByteStoredPrivileged s (s.disableLine l) 0xFFFF (s.read8 0xFFFF &&& ~~~ (1#8 <<< lineBit l)) ∧
    ByteStoredPrivileged s (s.raiseLine l) 0xFF0F (s.read8 0xFF0F ||| 1#8 <<< lineBit l) ∧
    ByteStoredPrivileged s (s.clearLine l) 0xFF0F (s.read8 0xFF0F &&& ~~~ (1#8 <<< lineBit l)) ∧
    s.globallyEnabled = s.ime ∧
    s.lineEnabled l = (s.read8 0xFFFF).getLsbD (lineBit l) ∧
    s.lineRequested l = (s.read8 0xFF0F).getLsbD (lineBit l) ∧
    (s.anyRequested = true ↔ (s.read8 0xFF0F).toNat % 32 ≠ 0)

/-! ## 8-bit loads and stores -/

/-- R100, R101, R102: the byte moves to the register unchanged, `(HL)` read through the old HL; nothing else
changes. -/
def Obligations.RegisterLoadsMoveOneByte : Prop :=
  (∀ (dst r : OpReg) (s : State), ∃ t, exec (Form.ld dst (.reg r)).instr s = .next t ∧
    RegsOnly s t [dst.reg] 1 4 ∧ t.reg dst.reg = s.reg r.reg) ∧
  (∀ (dst : OpReg) (n : Byte) (s : State), ∃ t, exec (Form.ld dst (.imm n)).instr s = .next t ∧
    RegsOnly s t [dst.reg] 2 8 ∧ t.reg dst.reg = n) ∧
  (∀ (dst : OpReg) (s : State), ∃ t, exec (Form.ld dst .atHl).instr s = .next t ∧
    RegsOnly s t [dst.reg] 1 8 ∧ t.reg dst.reg = s.read8 (s.pair .hl))

/-- R105, R106, R109, R111, R113, R116, R118: A from (BC), (DE), (nn), 0xFF00 + n, 0xFF00 + C, and from HL
before HL steps by one modulo 2^16 (the values of the page and of the steps: D36, D22). -/
def Obligations.AccumulatorLoadsReadTheirAddress : Prop :=
  LoadsAFrom .ldABc (fun s => s.pair .bc) 1 8 ∧
  LoadsAFrom .ldADe (fun s => s.pair .de) 1 8 ∧
  (∀ nn, LoadsAFrom (.ldANn nn) (fun _ => nn) 3 16) ∧
  (∀ n : Byte, LoadsAFrom (.ldhAN n) (fun _ => BitVec.ofNat 16 (0xFF00 + n.toNat)) 2 12) ∧
  LoadsAFrom .ldhAC (fun s => BitVec.ofNat 16 (0xFF00 + (s.reg .c).toNat)) 1 8 ∧
  LoadsAStepping .ldAHli 1 ∧
  LoadsAStepping .ldAHld (0 - 1)

/-- R103, R104, R107, R108, R110, R112, R114, R115, R117: one byte stored at the address the form names, every
other byte, every register but the stepping HL, and every flag kept. -/
def Obligations.StoresWriteOneByte : Prop :=
  (∀ r : OpReg, StoresTo (.ldToHl r) (fun s => s.pair .hl) (fun s => s.reg r.reg) 1 8) ∧
  (∀ n : Byte, StoresTo (.ldHlImm n) (fun s => s.pair .hl) (fun _ => n) 2 12) ∧
  StoresTo .ldBcA (fun s => s.pair .bc) (fun s => s.reg .a) 1 8 ∧
  StoresTo .ldDeA (fun s => s.pair .de) (fun s => s.reg .a) 1 8 ∧
  (∀ nn : Word, StoresTo (.ldNnA nn) (fun _ => nn) (fun s => s.reg .a) 3 16) ∧
  (∀ n : Byte, StoresTo (.ldhNA n) (fun _ => BitVec.ofNat 16 (0xFF00 + n.toNat)) (fun s => s.reg .a) 2 12) ∧
  StoresTo .ldhCA (fun s => BitVec.ofNat 16 (0xFF00 + (s.reg .c).toNat)) (fun s => s.reg .a) 1 8 ∧
  StoresAStepping .ldHliA 1 ∧
  StoresAStepping .ldHldA (0 - 1)

/-! ## 16-bit loads and the stack -/

/-- R132, R134: `LD rr,nn` for the three pairs and for SP, `LD SP,HL`. -/
def Obligations.WideLoadsSetPairOrSp : Prop :=
  (∀ (nn : Word) (s : State), ∃ t, exec (Form.ldWide .bc nn).instr s = .next t ∧
    RegsOnly s t [.b, .c] 3 12 ∧ t.pair .bc = nn) ∧
  (∀ (nn : Word) (s : State), ∃ t, exec (Form.ldWide .de nn).instr s = .next t ∧
    RegsOnly s t [.d, .e] 3 12 ∧ t.pair .de = nn) ∧
  (∀ (nn : Word) (s : State), ∃ t, exec (Form.ldWide .hl nn).instr s = .next t ∧
    RegsOnly s t [.h, .l] 3 12 ∧ t.pair .hl = nn) ∧
  (∀ (nn : Word) (s : State), ∃ t, exec (Form.ldWide .sp nn).instr s = .next t ∧
    Kept s t [] ∧ MemoryKept s t ∧ Advanced s t 3 12 ∧ t.sp = nn) ∧
  (∀ s : State, ∃ t, exec Form.ldSpHl.instr s = .next t ∧
    Kept s t [] ∧ MemoryKept s t ∧ Advanced s t 1 8 ∧ t.sp = s.pair .hl)

/-- R133: SP stored little-endian at nn, the high byte at nn + 1 modulo 65536; SP kept. -/
def Obligations.StoreOfSpWritesOneWord : Prop :=
  ∀ (nn : Word) (s : State), ∃ t, exec (Form.ldNnSp nn).instr s = .next t ∧
    Kept s t [] ∧ t.sp = s.sp ∧ WordStored s t nn s.sp ∧ Advanced s t 3 20

/-- R200, with R135 and R204 for the two forms: SP plus the signed operand, to HL or to SP; Z = N = 0; H and C are bits
4 and 8 of the XOR of the addends and the sum (the spec's decision D17; log entry 12), which are the carries out of
bits 3 and 7 of the unsigned low-byte addition (the equivalence is R200's derivation). -/
def Obligations.SpPlusOffsetAndItsCarries : Prop :=
  ∀ (e : Byte) (s : State), ∃ t u,
    exec (Form.ldHlSpE e).instr s = .next t ∧ exec (Form.addSpE e).instr s = .next u ∧
    RegsOnly s t [.h, .l, .f] 2 12 ∧ Kept s u [.f] ∧ MemoryKept s u ∧ Advanced s u 2 16 ∧
    t.pair .hl = BitVec.ofInt 16 (s.sp.toNat + e.toInt) ∧ u.sp = t.pair .hl ∧ u.flags = t.flags ∧
    t.flags.z = false ∧ t.flags.n = false ∧
    t.flags.h = (s.sp ^^^ e.signExtend 16 ^^^ t.pair .hl).getLsbD 4 ∧
    t.flags.c = (s.sp ^^^ e.signExtend 16 ^^^ t.pair .hl).getLsbD 8 ∧
    (t.flags.h = true ↔ s.sp.toNat % 16 + e.toNat % 16 > 15) ∧
    (t.flags.c = true ↔ s.sp.toNat % 256 + e.toNat > 255)

/-- R130 (direction and layout: the spec's decision D16; log entry 12), R136: SP down by 2 modulo 65536 and the pair
stored little-endian there; `PUSH AF` stores F with bits 3:0 zero (R136, log entry 14). -/
def Obligations.PushStoresPairBelowSp : Prop :=
  ∀ (p : Pair) (s : State), ∃ t, exec (Form.push p).instr s = .next t ∧
    Kept s t [] ∧ t.sp = s.sp - 2 ∧ WordStored s t (s.sp - 2) (s.pair p) ∧ Advanced s t 1 16 ∧
    (p = .af → s.pair p &&& 0x000F = 0 ∧ (s.mem.isFlat = true → t.read8 (s.sp - 2) &&& 0x0F = 0))

/-- R131, R137, R138: the word at SP to the pair and SP up by 2; `POP AF` takes the flags from bits 7 to 4 of
the low byte and drops bits 3:0. -/
def Obligations.PopLoadsPairFromSp : Prop :=
  (∀ (p : Pair) (s : State), p ≠ .af → ∃ t, exec (Form.pop p).instr s = .next t ∧
    Kept s t [p.hi, p.lo] ∧ t.sp = s.sp + 2 ∧ MemoryKept s t ∧ Advanced s t 1 12 ∧ t.pair p = wordAtSp s) ∧
  (∀ s : State, ∃ t, exec (Form.pop .af).instr s = .next t ∧
    Kept s t [.a, .f] ∧ t.sp = s.sp + 2 ∧ MemoryKept s t ∧ Advanced s t 1 12 ∧
    t.reg .a = s.read8 (s.sp + 1) ∧ t.reg .f = s.read8 s.sp &&& 0xF0 ∧
    t.flags = ⟨(s.read8 s.sp).getLsbD 7, (s.read8 s.sp).getLsbD 6, (s.read8 s.sp).getLsbD 5,
      (s.read8 s.sp).getLsbD 4⟩)

/-- R131: a pop after a push gives the word pushed, in whichever pair, and SP back, at every SP, across the
wrap of addresses too; into AF its bits 3:0 are dropped (R322). The word is the one pushed in the reference memory; in
any memory it is what memory answers at SP. -/
def Obligations.PopAfterPushRestoresWordAndSp : Prop :=
  ∀ (p q : Pair) (s t : State), exec (Form.push p).instr s = .next t →
    ∃ u, exec (Form.pop q).instr t = .next u ∧ u.sp = s.sp ∧
      (u.pair q = if q = .af then wordAtSp t &&& 0xFFF0 else wordAtSp t) ∧
      (s.mem.isFlat = true → u.pair q = if q = .af then s.pair p &&& 0xFFF0 else s.pair p)

/-! ## 8-bit arithmetic and logic -/

/-- R150, R151 with R160 to R165 (lengths and ticks: D22, D23): add and add-with-carry, on unbounded sums; the carry-in
counts in the nibble test too. Z from the 8-bit result is the spec's decision D33 (log entry 12). -/
def Obligations.AddAndAdcSumAndFlags : Prop :=
  AccResult .add (fun a v _ r fl =>
    r.toNat = (a.toNat + v.toNat) % 256 ∧
    fl = ⟨decide ((a.toNat + v.toNat) % 256 = 0), false, decide (a.toNat % 16 + v.toNat % 16 > 15),
      decide (a.toNat + v.toNat > 255)⟩) ∧
  AccResult .adc (fun a v c r fl =>
    r.toNat = (a.toNat + v.toNat + c.toNat) % 256 ∧
    fl = ⟨decide ((a.toNat + v.toNat + c.toNat) % 256 = 0), false,
      decide (a.toNat % 16 + v.toNat % 16 + c.toNat > 15), decide (a.toNat + v.toNat + c.toNat > 255)⟩)

/-- R152, R153, R157 with R166 to R171 and R181 to R183 (lengths and ticks: D22, D23): subtract, subtract-with-carry and
compare: a borrow is a comparison of naturals, with no precision lost (the spec's decision D18; `SBC` of 0xFF and carry
from 0 sets Z, H and C); `CP` keeps A. Z from the 8-bit result is the spec's decision D33 (log entry 12). -/
def Obligations.SubSbcCpDifferenceAndFlags : Prop :=
  AccResult .sub (fun a v _ r fl =>
    r = a - v ∧ fl = ⟨decide (a = v), true, decide (a.toNat % 16 < v.toNat % 16), decide (a.toNat < v.toNat)⟩) ∧
  AccResult .sbc (fun a v c r fl =>
    r = a - v - BitVec.ofNat 8 c.toNat ∧
    fl = ⟨decide (a - v - BitVec.ofNat 8 c.toNat = 0), true, decide (a.toNat % 16 < v.toNat % 16 + c.toNat),
      decide (a.toNat < v.toNat + c.toNat)⟩) ∧
  AccResult .cp (fun a v _ r fl =>
    r = a ∧ fl = ⟨decide (a = v), true, decide (a.toNat % 16 < v.toNat % 16), decide (a.toNat < v.toNat)⟩)

/-- R154, R155, R156 with R172 to R180: the logical operations, bit by bit; H is 1 for AND only, C always 0. The
lengths and ticks of the three operand forms are those of 43_alu8.md part 2 and R320, by D22 and D23 (log entry 12). -/
def Obligations.LogicOperationsBitwise : Prop :=
  AccResult .and (fun a v _ r fl =>
    (∀ k, r.getLsbD k = (a.getLsbD k && v.getLsbD k)) ∧ fl = ⟨decide (r = 0), false, true, false⟩) ∧
  AccResult .xor (fun a v _ r fl =>
    (∀ k, r.getLsbD k = (a.getLsbD k ^^ v.getLsbD k)) ∧ fl = ⟨decide (r = 0), false, false, false⟩) ∧
  AccResult .or (fun a v _ r fl =>
    (∀ k, r.getLsbD k = (a.getLsbD k || v.getLsbD k)) ∧ fl = ⟨decide (r = 0), false, false, false⟩)

/-- R158, R159 with R184 to R187: the byte plus or minus one, H tested on the value before, C kept. Length and ticks
are those of R184 to R187 and R320, by D22 and D23 (log entry 12). -/
def Obligations.IncAndDecKeepCarry : Prop :=
  LocResult .inc (fun v fl r fl' =>
    r.toNat = (v.toNat + 1) % 256 ∧ fl' = ⟨decide (r = 0), false, decide (v.toNat % 16 = 15), fl.c⟩) ∧
  LocResult .dec (fun v fl r fl' =>
    r = v - 1 ∧ fl' = ⟨decide (r = 0), true, decide (v.toNat % 16 = 0), fl.c⟩)

/-- R159, the source's property: `INC r` then `DEC r` gives the register back, and the flags are those of the
decrement alone. -/
def Obligations.IncThenDecRestoresRegister : Prop :=
  ∀ (r : OpReg) (s t : State), exec (Form.inc (.reg r)).instr s = .next t →
    ∃ u, exec (Form.dec (.reg r)).instr t = .next u ∧ u.reg r.reg = s.reg r.reg ∧
      u.flags = ⟨decide (s.reg r.reg = 0), true, decide ((s.reg r.reg).toNat % 16 = 15), s.flags.c⟩

/-- R188 (the thresholds are the spec's decision D19): the adjustment and the flags. -/
def Obligations.DaaAdjustsByHAndC : Prop :=
  ∀ s : State, ∃ t, exec Form.daa.instr s = .next t ∧ RegsOnly s t [.a, .f] 1 4 ∧
    t.flags.n = s.flags.n ∧ t.flags.h = false ∧ t.flags.z = decide (t.reg .a = 0) ∧
    (s.flags.n = false →
      t.flags.c = (s.flags.c || decide ((s.reg .a).toNat > 0x99)) ∧
      (t.reg .a).toNat = ((s.reg .a).toNat + (if t.flags.c then 0x60 else 0) +
        (if s.flags.h || decide ((s.reg .a).toNat % 16 > 9) then 6 else 0)) % 256) ∧
    (s.flags.n = true →
      t.flags.c = s.flags.c ∧
      t.reg .a = s.reg .a - (if s.flags.c then 0x60 else 0) - (if s.flags.h then 6 else 0))

/-- R188, the source's property (S4): after the 8-bit add of two valid two-digit BCD bytes, `DAA` gives the BCD
sum and sets carry exactly when the true sum exceeds 99. -/
def Obligations.DaaCorrectsBcdSums : Prop :=
  ∀ (m n : Nat) (s : State), m < 100 → n < 100 → s.reg .a = bcd m →
    ∃ t u, exec (Form.alu .add (.imm (bcd n))).instr s = .next t ∧ exec Form.daa.instr t = .next u ∧
      u.reg .a = bcd ((m + n) % 100) ∧ u.flags.c = decide (m + n > 99) ∧ u.flags.h = false ∧
      u.flags.z = decide ((m + n) % 100 = 0)

/-- The matching property for subtraction (95_test_vectors.md S4): after `SUB` of two BCD bytes `DAA` gives the
BCD difference modulo 100 and carry exactly for a borrow. -/
def Obligations.DaaCorrectsBcdDifferences : Prop :=
  ∀ (m n : Nat) (s : State), m < 100 → n < 100 → s.reg .a = bcd m →
    ∃ t u, exec (Form.alu .sub (.imm (bcd n))).instr s = .next t ∧ exec Form.daa.instr t = .next u ∧
      u.reg .a = bcd ((m + 100 - n) % 100) ∧ u.flags.c = decide (m < n)

/-- R189, R190, R191: `CPL`, `SCF`, `CCF`; Z is kept by all three, C by `CPL` (flags: the spec's decision D21). -/
def Obligations.CplScfCcfEffects : Prop :=
  (∀ s : State, ∃ t, exec Form.cpl.instr s = .next t ∧ RegsOnly s t [.a, .f] 1 4 ∧
    t.reg .a = ~~~ (s.reg .a) ∧ t.flags = ⟨s.flags.z, true, true, s.flags.c⟩) ∧
  (∀ s : State, ∃ t, exec Form.scf.instr s = .next t ∧ RegsOnly s t [.f] 1 4 ∧
    t.flags = ⟨s.flags.z, false, false, true⟩) ∧
  (∀ s : State, ∃ t, exec Form.ccf.instr s = .next t ∧ RegsOnly s t [.f] 1 4 ∧
    t.flags = ⟨s.flags.z, false, false, !s.flags.c⟩)

/-! ## 16-bit arithmetic -/

/-- R201: HL plus a pair or SP; Z kept, N = 0, H the carry out of bit 11, C out of bit 15. -/
def Obligations.AddHlSumAndFlags : Prop :=
  ∀ (rr : WideReg) (s : State), ∃ t, exec (Form.addHl rr).instr s = .next t ∧
    RegsOnly s t [.h, .l, .f] 1 8 ∧
    (t.pair .hl).toNat = ((s.pair .hl).toNat + (s.wide rr).toNat) % 65536 ∧
    t.flags = ⟨s.flags.z, false, decide ((s.pair .hl).toNat % 4096 + (s.wide rr).toNat % 4096 > 4095),
      decide ((s.pair .hl).toNat + (s.wide rr).toNat > 65535)⟩

/-- R202, R203: a pair or SP plus or minus one modulo 65536; no flag changes (D34). -/
def Obligations.WideIncAndDecTouchNoFlag : Prop :=
  ∀ (rr : WideReg) (s : State), ∃ t u,
    exec (Form.incWide rr).instr s = .next t ∧ exec (Form.decWide rr).instr s = .next u ∧
    Kept s t (wideRegs rr) ∧ MemoryKept s t ∧ Advanced s t 1 8 ∧ (rr ≠ .sp → t.sp = s.sp) ∧
    Kept s u (wideRegs rr) ∧ MemoryKept s u ∧ Advanced s u 1 8 ∧ (rr ≠ .sp → u.sp = s.sp) ∧
    (t.wide rr).toNat = ((s.wide rr).toNat + 1) % 65536 ∧
    (u.wide rr).toNat = ((s.wide rr).toNat + 65535) % 65536

/-! ## Rotates, shifts and bits -/

/-- R210 to R213 with R221 to R224: the accumulator rotates move bits as the table says and force Z = 0. -/
def Obligations.AccumulatorRotatesForceZeroFlagClear : Prop :=
  ∀ x ∈ [(Form.rlca, RotOp.rlc), (Form.rla, RotOp.rl), (Form.rrca, RotOp.rrc), (Form.rra, RotOp.rr)],
    ∀ s : State, ∃ t, exec x.1.instr s = .next t ∧ RegsOnly s t [.a, .f] 1 4 ∧
      (∀ k, k < 8 → (t.reg .a).getLsbD k = movedBit x.2 s.flags.c (s.reg .a).getLsbD k) ∧
      t.flags = ⟨false, false, false, movedCarry x.2 (s.reg .a).getLsbD⟩

/-- R210 to R217 with R225 to R240: the extended rotates and shifts on a register or (HL) move bits as the
table says; Z from the result, N = H = 0, C the bit moved out (0 for SWAP). The routing, N and H are the spec's
decision D20 (log entry 12, PRESUMED). -/
def Obligations.RotatesAndShiftsMoveBits : Prop :=
  ∀ op : RotOp, LocResult (.rot op) (fun v fl r fl' =>
    (∀ k, k < 8 → r.getLsbD k = movedBit op fl.c v.getLsbD k) ∧
    fl' = ⟨decide (r = 0), false, false, movedCarry op v.getLsbD⟩)

/-- R218 with R241, R242: `BIT` writes Z, N, H and nothing else; C kept; one read, no write. Length and ticks are those
of R241, R242 and R320, by D22 and D23 (log entry 12). -/
def Obligations.BitTestsWithoutWriting : Prop :=
  ∀ b : Oct,
    (∀ (r : OpReg) (s : State), ∃ t, exec (Form.bit b (.reg r)).instr s = .next t ∧ RegsOnly s t [.f] 1 4 ∧
      t.flags = ⟨!(s.reg r.reg).getLsbD b.code.toNat, false, true, s.flags.c⟩) ∧
    (∀ s : State, ∃ t, exec (Form.bit b .atHl).instr s = .next t ∧ RegsOnly s t [.f] 1 8 ∧
      t.flags = ⟨!(s.read8 (s.pair .hl)).getLsbD b.code.toNat, false, true, s.flags.c⟩)

/-- R219, R220 with R243 to R246: `RES` and `SET` change one bit of the place and no flag. Length and ticks are those of
R243 to R246 and R320, by D22 and D23 (log entry 12). -/
def Obligations.ResAndSetChangeOneBit : Prop :=
  ∀ b : Oct,
    LocResult (.res b) (fun v fl r fl' =>
      (∀ k, r.getLsbD k = if k = b.code.toNat then false else v.getLsbD k) ∧ fl' = fl) ∧
    LocResult (.set b) (fun v fl r fl' =>
      (∀ k, k < 8 → r.getLsbD k = if k = b.code.toNat then true else v.getLsbD k) ∧ fl' = fl)

/-! ## Control transfer -/

/-- R250 to R255: jumps go to their target when unconditional or when the condition holds, else past the
instruction; the relative target counts from the following instruction, modulo 65536 (D14); nothing else
changes. -/
def Obligations.JumpsReachTheirTarget : Prop :=
  (∀ (nn : Word) (s : State), ∃ t, exec (Form.jp nn).instr s = .next t ∧ JumpOnly s t nn 16) ∧
  (∀ (cc : Cond) (nn : Word) (s : State), ∃ t, exec (Form.jpCc cc nn).instr s = .next t ∧
    JumpOnly s t (if condition cc s then nn else s.pc + 3) (if condition cc s then 16 else 12)) ∧
  (∀ s : State, ∃ t, exec Form.jpHl.instr s = .next t ∧ JumpOnly s t (s.pair .hl) 4) ∧
  (∀ (e : Byte) (s : State), ∃ t, exec (Form.jr e).instr s = .next t ∧
    JumpOnly s t (BitVec.ofInt 16 (s.pc.toNat + 2 + e.toInt)) 12) ∧
  (∀ (cc : Cond) (e : Byte) (s : State), ∃ t, exec (Form.jrCc cc e).instr s = .next t ∧
    JumpOnly s t (if condition cc s then BitVec.ofInt 16 (s.pc.toNat + 2 + e.toInt) else s.pc + 2)
      (if condition cc s then 12 else 8))

/-- R256, R257, R261: calls and restarts push the address of the following instruction (D15) and go to their
target; a call not taken makes no write and keeps SP. -/
def Obligations.CallsAndRestartsPushReturnAddress : Prop :=
  (∀ (nn : Word) (s : State), ∃ t, exec (Form.call nn).instr s = .next t ∧ Kept s t [] ∧
    t.sp = s.sp - 2 ∧ WordStored s t (s.sp - 2) (s.pc + 3) ∧ Redirected s t nn 24) ∧
  (∀ (cc : Cond) (nn : Word) (s : State), ∃ t, exec (Form.callCc cc nn).instr s = .next t ∧ Kept s t [] ∧
    (condition cc s = true →
      t.sp = s.sp - 2 ∧ WordStored s t (s.sp - 2) (s.pc + 3) ∧ Redirected s t nn 24) ∧
    (condition cc s = false → t.sp = s.sp ∧ MemoryKept s t ∧ Redirected s t (s.pc + 3) 12)) ∧
  (∀ (y : Oct) (s : State), ∃ t, exec (Form.rst y).instr s = .next t ∧ Kept s t [] ∧
    t.sp = s.sp - 2 ∧ WordStored s t (s.sp - 2) (s.pc + 1) ∧
    Redirected s t (BitVec.ofNat 16 (8 * y.code.toNat)) 16)

/-- R258, R259, R260: returns pop PC; `RETI` also sets IME, in its own step (D37); a return not taken makes no
access and keeps SP. -/
def Obligations.ReturnsPopProgramCounter : Prop :=
  (∀ s : State, ∃ t, exec Form.ret.instr s = .next t ∧ Kept s t [] ∧ t.sp = s.sp + 2 ∧ MemoryKept s t ∧
    Redirected s t (wordAtSp s) 16) ∧
  (∀ (cc : Cond) (s : State), ∃ t, exec (Form.retCc cc).instr s = .next t ∧ Kept s t [] ∧ MemoryKept s t ∧
    (condition cc s = true → t.sp = s.sp + 2 ∧ Redirected s t (wordAtSp s) 20) ∧
    (condition cc s = false → t.sp = s.sp ∧ Redirected s t (s.pc + 1) 8)) ∧
  (∀ s : State, ∃ t, exec Form.reti.instr s = .next t ∧ t.ime = true ∧ Kept (s.setIme true) t [] ∧
    t.sp = s.sp + 2 ∧ MemoryKept s t ∧ Redirected s t (wordAtSp s) 16)

/-- R256, R258, R261: a return right after a call or restart comes back with SP as it was to what memory answers at the
pushed word, in the reference memory the following instruction. -/
def Obligations.ReturnAfterCallComesBack : Prop :=
  (∀ (nn : Word) (s t : State), exec (Form.call nn).instr s = .next t →
    ∃ u, exec Form.ret.instr t = .next u ∧ u.pc = wordAtSp t ∧ (s.mem.isFlat = true → u.pc = s.pc + 3) ∧
      u.sp = s.sp ∧ u.regs = s.regs) ∧
  (∀ (y : Oct) (s t : State), exec (Form.rst y).instr s = .next t →
    ∃ u, exec Form.ret.instr t = .next u ∧ u.pc = wordAtSp t ∧ (s.mem.isFlat = true → u.pc = s.pc + 1) ∧
      u.sp = s.sp ∧ u.regs = s.regs)

/-! ## System instructions -/

/-- R270, R276, R272: `NOP`, the eleven undefined opcodes (one byte, 4 ticks: D11) and `STOP` (two bytes, 4
ticks, operand ignored: D12) change PC and CYC only. -/
def Obligations.NopStopAndUndefinedChangeNothing : Prop :=
  (∀ s : State, ∃ t, exec Form.nop.instr s = .next t ∧ RegsOnly s t [] 1 4) ∧
  (∀ (u : Undef) (s : State), ∃ t, exec (Form.undef u).instr s = .next t ∧ RegsOnly s t [] 1 4) ∧
  (∀ (n : Byte) (s : State), ∃ t, exec (Form.stop n).instr s = .next t ∧ RegsOnly s t [] 2 4)

/-- R271, R273, R274, R275: each writes its one flag, at once (D6, D31), and nothing else but PC and CYC. -/
def Obligations.ControlFlagInstructionsWriteOneFlag : Prop :=
  ∀ s : State,
    exec Form.halt.instr s = .next { s with halt := true, pc := s.pc + 1, cyc := s.cyc + 4 } ∧
    exec Form.di.instr s = .next { s with ime := false, pc := s.pc + 1, cyc := s.cyc + 4 } ∧
    exec Form.ei.instr s = .next { s with ime := true, pc := s.pc + 1, cyc := s.cyc + 4 } ∧
    exec Form.prefixCb.instr s = .next { s with ext := true, pc := s.pc + 1, cyc := s.cyc + 4 }

/-! ## Frames and the invariant, over every instruction -/

/-- R16 and its table: a flag that an instruction's row does not name keeps its value. -/
def Obligations.UnnamedFlagsAreKept : Prop :=
  ∀ (i : Instr) (s t : State), exec i s = .next t →
    ((flagsWritten i.form).z = false → t.flags.z = s.flags.z) ∧
    ((flagsWritten i.form).n = false → t.flags.n = s.flags.n) ∧
    ((flagsWritten i.form).h = false → t.flags.h = s.flags.h) ∧
    ((flagsWritten i.form).c = false → t.flags.c = s.flags.c)

/-- Every register but an instruction's destinations, and SP but for the instructions R12 names, keeps its
value; no instruction writes the model's constant. -/
def Obligations.UnnamedRegistersAreKept : Prop :=
  ∀ (i : Instr) (s t : State), exec i s = .next t →
    (∀ r, r ≠ .f → r ∉ regsWritten i.form → t.reg r = s.reg r) ∧
    (spWritten i.form s = false → t.sp = s.sp) ∧ t.intDispatchTicks = s.intDispatchTicks

/-- Every byte outside the addresses an instruction stores to, computed in the state it starts from, reads as
before in the reference memory. Of every memory: a form without a store leaves it as it is, a form that stores one
byte gives it one write at that address, a form that stores two gives it one word write there; none exchanges the
collaborator for another. -/
def Obligations.BytesNotStoredToAreKept : Prop :=
  ∀ (i : Instr) (s t : State), exec i s = .next t →
    (s.mem.isFlat = true → ∀ x, x ∉ storedAt i.form s → t.read8 x = s.read8 x) ∧
    (storedAt i.form s = [] → t.mem = s.mem ∧ ∀ x, t.read8 x = s.read8 x) ∧
    (∀ a, storedAt i.form s = [a] → ∃ v, t.mem = s.mem.write a v) ∧
    (∀ a b, storedAt i.form s = [a, b] → b = a + 1 ∧ ∃ v, t.mem = s.mem.writeWord a v) ∧
    t.mem.isFlat = s.mem.isFlat

/-- R15, R95 (a), and the canonical form of memory: every step keeps the invariant, from every state that has
it, interrupts and halted steps among them. -/
def Obligations.StepKeepsInvariant : Prop :=
  ∀ s t : State, s.Inv → step s = .next t → t.Inv

/-- What the environment may do between two steps (R51, R45, R288) keeps the invariant too. -/
def Obligations.EnvironmentMovesKeepInvariant : Prop :=
  ∀ (s : State) (l : Line) (x : Word) (v : Byte), s.Inv →
    (s.privilegedWrite x v).Inv ∧ (s.raiseLine l).Inv ∧ (s.clearLine l).Inv ∧ (s.enableLine l).Inv ∧
      (s.disableLine l).Inv
end

