-- ==== Sys2Proof/Laws/State.lean ====
section
/-! SUPPORT. What each update of the state does to each field and each reading of it: one small lemma per
pair, so that no later proof unfolds a record update. -/

namespace Sys2Proof

namespace Machine

/-- PC and CYC moved on as `retire` moves them. -/
def State.advance (s : State) (l n : Nat) : State := (s.setPc (s.pc + BitVec.ofNat 16 l)).addTicks n

/-- PC and CYC moved on as `redirect` moves them. -/
def State.goTo (s : State) (a : Word) (n : Nat) : State := (s.setPc a).addTicks n

theorem retire_eq (l n : Nat) (s : State) : retire l n s = .next (s.advance l n) := rfl
theorem redirect_eq (a : Word) (n : Nat) (s : State) : redirect a n s = .next (s.goTo a n) := rfl

/-! ## What an update leaves alone, and what it writes -/

@[simp] theorem State.sp_setReg (s : State) (r : Reg8) (v : Byte) :
    (s.setReg r v).sp = s.sp := rfl
@[simp] theorem State.pc_setReg (s : State) (r : Reg8) (v : Byte) :
    (s.setReg r v).pc = s.pc := rfl
@[simp] theorem State.ime_setReg (s : State) (r : Reg8) (v : Byte) :
    (s.setReg r v).ime = s.ime := rfl
@[simp] theorem State.halt_setReg (s : State) (r : Reg8) (v : Byte) :
    (s.setReg r v).halt = s.halt := rfl
@[simp] theorem State.ext_setReg (s : State) (r : Reg8) (v : Byte) :
    (s.setReg r v).ext = s.ext := rfl
@[simp] theorem State.cyc_setReg (s : State) (r : Reg8) (v : Byte) :
    (s.setReg r v).cyc = s.cyc := rfl
@[simp] theorem State.mem_setReg (s : State) (r : Reg8) (v : Byte) :
    (s.setReg r v).mem = s.mem := rfl
@[simp] theorem State.read8_setReg (s : State) (r : Reg8) (v : Byte) (x : Word) :
    (s.setReg r v).read8 x = s.read8 x := rfl
@[simp] theorem State.read16_setReg (s : State) (r : Reg8) (v : Byte) (x : Word) :
    (s.setReg r v).read16 x = s.read16 x := rfl
@[simp] theorem State.intDispatchTicks_setReg (s : State) (r : Reg8) (v : Byte) :
    (s.setReg r v).intDispatchTicks = s.intDispatchTicks := rfl

@[simp] theorem State.sp_setPair (s : State) (p : Pair) (v : Word) :
    (s.setPair p v).sp = s.sp := rfl
@[simp] theorem State.pc_setPair (s : State) (p : Pair) (v : Word) :
    (s.setPair p v).pc = s.pc := rfl
@[simp] theorem State.ime_setPair (s : State) (p : Pair) (v : Word) :
    (s.setPair p v).ime = s.ime := rfl
@[simp] theorem State.halt_setPair (s : State) (p : Pair) (v : Word) :
    (s.setPair p v).halt = s.halt := rfl
@[simp] theorem State.ext_setPair (s : State) (p : Pair) (v : Word) :
    (s.setPair p v).ext = s.ext := rfl
@[simp] theorem State.cyc_setPair (s : State) (p : Pair) (v : Word) :
    (s.setPair p v).cyc = s.cyc := rfl
@[simp] theorem State.mem_setPair (s : State) (p : Pair) (v : Word) :
    (s.setPair p v).mem = s.mem := rfl
@[simp] theorem State.read8_setPair (s : State) (p : Pair) (v : Word) (x : Word) :
    (s.setPair p v).read8 x = s.read8 x := rfl
@[simp] theorem State.read16_setPair (s : State) (p : Pair) (v : Word) (x : Word) :
    (s.setPair p v).read16 x = s.read16 x := rfl
@[simp] theorem State.intDispatchTicks_setPair (s : State) (p : Pair) (v : Word) :
    (s.setPair p v).intDispatchTicks = s.intDispatchTicks := rfl

@[simp] theorem State.sp_setFlags (s : State) (fl : Flags) :
    (s.setFlags fl).sp = s.sp := rfl
@[simp] theorem State.pc_setFlags (s : State) (fl : Flags) :
    (s.setFlags fl).pc = s.pc := rfl
@[simp] theorem State.ime_setFlags (s : State) (fl : Flags) :
    (s.setFlags fl).ime = s.ime := rfl
@[simp] theorem State.halt_setFlags (s : State) (fl : Flags) :
    (s.setFlags fl).halt = s.halt := rfl
@[simp] theorem State.ext_setFlags (s : State) (fl : Flags) :
    (s.setFlags fl).ext = s.ext := rfl
@[simp] theorem State.cyc_setFlags (s : State) (fl : Flags) :
    (s.setFlags fl).cyc = s.cyc := rfl
@[simp] theorem State.mem_setFlags (s : State) (fl : Flags) :
    (s.setFlags fl).mem = s.mem := rfl
@[simp] theorem State.read8_setFlags (s : State) (fl : Flags) (x : Word) :
    (s.setFlags fl).read8 x = s.read8 x := rfl
@[simp] theorem State.read16_setFlags (s : State) (fl : Flags) (x : Word) :
    (s.setFlags fl).read16 x = s.read16 x := rfl
@[simp] theorem State.intDispatchTicks_setFlags (s : State) (fl : Flags) :
    (s.setFlags fl).intDispatchTicks = s.intDispatchTicks := rfl

@[simp] theorem State.regs_setSp (s : State) (v : Word) :
    (s.setSp v).regs = s.regs := rfl
@[simp] theorem State.reg_setSp (s : State) (v : Word) (r' : Reg8) :
    (s.setSp v).reg r' = s.reg r' := rfl
@[simp] theorem State.pair_setSp (s : State) (v : Word) (q : Pair) :
    (s.setSp v).pair q = s.pair q := rfl
@[simp] theorem State.flags_setSp (s : State) (v : Word) :
    (s.setSp v).flags = s.flags := rfl
@[simp] theorem State.sp_setSp (s : State) (v : Word) :
    (s.setSp v).sp = v := rfl
@[simp] theorem State.pc_setSp (s : State) (v : Word) :
    (s.setSp v).pc = s.pc := rfl
@[simp] theorem State.ime_setSp (s : State) (v : Word) :
    (s.setSp v).ime = s.ime := rfl
@[simp] theorem State.halt_setSp (s : State) (v : Word) :
    (s.setSp v).halt = s.halt := rfl
@[simp] theorem State.ext_setSp (s : State) (v : Word) :
    (s.setSp v).ext = s.ext := rfl
@[simp] theorem State.cyc_setSp (s : State) (v : Word) :
    (s.setSp v).cyc = s.cyc := rfl
@[simp] theorem State.mem_setSp (s : State) (v : Word) :
    (s.setSp v).mem = s.mem := rfl
@[simp] theorem State.read8_setSp (s : State) (v : Word) (x : Word) :
    (s.setSp v).read8 x = s.read8 x := rfl
@[simp] theorem State.read16_setSp (s : State) (v : Word) (x : Word) :
    (s.setSp v).read16 x = s.read16 x := rfl
@[simp] theorem State.intDispatchTicks_setSp (s : State) (v : Word) :
    (s.setSp v).intDispatchTicks = s.intDispatchTicks := rfl

@[simp] theorem State.regs_setPc (s : State) (v : Word) :
    (s.setPc v).regs = s.regs := rfl
@[simp] theorem State.reg_setPc (s : State) (v : Word) (r' : Reg8) :
    (s.setPc v).reg r' = s.reg r' := rfl
@[simp] theorem State.pair_setPc (s : State) (v : Word) (q : Pair) :
    (s.setPc v).pair q = s.pair q := rfl
@[simp] theorem State.flags_setPc (s : State) (v : Word) :
    (s.setPc v).flags = s.flags := rfl
@[simp] theorem State.sp_setPc (s : State) (v : Word) :
    (s.setPc v).sp = s.sp := rfl
@[simp] theorem State.pc_setPc (s : State) (v : Word) :
    (s.setPc v).pc = v := rfl
@[simp] theorem State.ime_setPc (s : State) (v : Word) :
    (s.setPc v).ime = s.ime := rfl
@[simp] theorem State.halt_setPc (s : State) (v : Word) :
    (s.setPc v).halt = s.halt := rfl
@[simp] theorem State.ext_setPc (s : State) (v : Word) :
    (s.setPc v).ext = s.ext := rfl
@[simp] theorem State.cyc_setPc (s : State) (v : Word) :
    (s.setPc v).cyc = s.cyc := rfl
@[simp] theorem State.mem_setPc (s : State) (v : Word) :
    (s.setPc v).mem = s.mem := rfl
@[simp] theorem State.read8_setPc (s : State) (v : Word) (x : Word) :
    (s.setPc v).read8 x = s.read8 x := rfl
@[simp] theorem State.read16_setPc (s : State) (v : Word) (x : Word) :
    (s.setPc v).read16 x = s.read16 x := rfl
@[simp] theorem State.intDispatchTicks_setPc (s : State) (v : Word) :
    (s.setPc v).intDispatchTicks = s.intDispatchTicks := rfl

@[simp] theorem State.regs_setIme (s : State) (v : Bool) :
    (s.setIme v).regs = s.regs := rfl
@[simp] theorem State.reg_setIme (s : State) (v : Bool) (r' : Reg8) :
    (s.setIme v).reg r' = s.reg r' := rfl
@[simp] theorem State.pair_setIme (s : State) (v : Bool) (q : Pair) :
    (s.setIme v).pair q = s.pair q := rfl
@[simp] theorem State.flags_setIme (s : State) (v : Bool) :
    (s.setIme v).flags = s.flags := rfl
@[simp] theorem State.sp_setIme (s : State) (v : Bool) :
    (s.setIme v).sp = s.sp := rfl
@[simp] theorem State.pc_setIme (s : State) (v : Bool) :
    (s.setIme v).pc = s.pc := rfl
@[simp] theorem State.ime_setIme (s : State) (v : Bool) :
    (s.setIme v).ime = v := rfl
@[simp] theorem State.halt_setIme (s : State) (v : Bool) :
    (s.setIme v).halt = s.halt := rfl
@[simp] theorem State.ext_setIme (s : State) (v : Bool) :
    (s.setIme v).ext = s.ext := rfl
@[simp] theorem State.cyc_setIme (s : State) (v : Bool) :
    (s.setIme v).cyc = s.cyc := rfl
@[simp] theorem State.mem_setIme (s : State) (v : Bool) :
    (s.setIme v).mem = s.mem := rfl
@[simp] theorem State.read8_setIme (s : State) (v : Bool) (x : Word) :
    (s.setIme v).read8 x = s.read8 x := rfl
@[simp] theorem State.read16_setIme (s : State) (v : Bool) (x : Word) :
    (s.setIme v).read16 x = s.read16 x := rfl
@[simp] theorem State.intDispatchTicks_setIme (s : State) (v : Bool) :
    (s.setIme v).intDispatchTicks = s.intDispatchTicks := rfl

@[simp] theorem State.regs_setHalt (s : State) (v : Bool) :
    (s.setHalt v).regs = s.regs := rfl
@[simp] theorem State.reg_setHalt (s : State) (v : Bool) (r' : Reg8) :
    (s.setHalt v).reg r' = s.reg r' := rfl
@[simp] theorem State.pair_setHalt (s : State) (v : Bool) (q : Pair) :
    (s.setHalt v).pair q = s.pair q := rfl
@[simp] theorem State.flags_setHalt (s : State) (v : Bool) :
    (s.setHalt v).flags = s.flags := rfl
@[simp] theorem State.sp_setHalt (s : State) (v : Bool) :
    (s.setHalt v).sp = s.sp := rfl
@[simp] theorem State.pc_setHalt (s : State) (v : Bool) :
    (s.setHalt v).pc = s.pc := rfl
@[simp] theorem State.ime_setHalt (s : State) (v : Bool) :
    (s.setHalt v).ime = s.ime := rfl
@[simp] theorem State.halt_setHalt (s : State) (v : Bool) :
    (s.setHalt v).halt = v := rfl
@[simp] theorem State.ext_setHalt (s : State) (v : Bool) :
    (s.setHalt v).ext = s.ext := rfl
@[simp] theorem State.cyc_setHalt (s : State) (v : Bool) :
    (s.setHalt v).cyc = s.cyc := rfl
@[simp] theorem State.mem_setHalt (s : State) (v : Bool) :
    (s.setHalt v).mem = s.mem := rfl
@[simp] theorem State.read8_setHalt (s : State) (v : Bool) (x : Word) :
    (s.setHalt v).read8 x = s.read8 x := rfl
@[simp] theorem State.read16_setHalt (s : State) (v : Bool) (x : Word) :
    (s.setHalt v).read16 x = s.read16 x := rfl
@[simp] theorem State.intDispatchTicks_setHalt (s : State) (v : Bool) :
    (s.setHalt v).intDispatchTicks = s.intDispatchTicks := rfl

@[simp] theorem State.regs_setExt (s : State) (v : Bool) :
    (s.setExt v).regs = s.regs := rfl
@[simp] theorem State.reg_setExt (s : State) (v : Bool) (r' : Reg8) :
    (s.setExt v).reg r' = s.reg r' := rfl
@[simp] theorem State.pair_setExt (s : State) (v : Bool) (q : Pair) :
    (s.setExt v).pair q = s.pair q := rfl
@[simp] theorem State.flags_setExt (s : State) (v : Bool) :
    (s.setExt v).flags = s.flags := rfl
@[simp] theorem State.sp_setExt (s : State) (v : Bool) :
    (s.setExt v).sp = s.sp := rfl
@[simp] theorem State.pc_setExt (s : State) (v : Bool) :
    (s.setExt v).pc = s.pc := rfl
@[simp] theorem State.ime_setExt (s : State) (v : Bool) :
    (s.setExt v).ime = s.ime := rfl
@[simp] theorem State.halt_setExt (s : State) (v : Bool) :
    (s.setExt v).halt = s.halt := rfl
@[simp] theorem State.ext_setExt (s : State) (v : Bool) :
    (s.setExt v).ext = v := rfl
@[simp] theorem State.cyc_setExt (s : State) (v : Bool) :
    (s.setExt v).cyc = s.cyc := rfl
@[simp] theorem State.mem_setExt (s : State) (v : Bool) :
    (s.setExt v).mem = s.mem := rfl
@[simp] theorem State.read8_setExt (s : State) (v : Bool) (x : Word) :
    (s.setExt v).read8 x = s.read8 x := rfl
@[simp] theorem State.read16_setExt (s : State) (v : Bool) (x : Word) :
    (s.setExt v).read16 x = s.read16 x := rfl
@[simp] theorem State.intDispatchTicks_setExt (s : State) (v : Bool) :
    (s.setExt v).intDispatchTicks = s.intDispatchTicks := rfl

@[simp] theorem State.regs_addTicks (s : State) (n : Nat) :
    (s.addTicks n).regs = s.regs := rfl
@[simp] theorem State.reg_addTicks (s : State) (n : Nat) (r' : Reg8) :
    (s.addTicks n).reg r' = s.reg r' := rfl
@[simp] theorem State.pair_addTicks (s : State) (n : Nat) (q : Pair) :
    (s.addTicks n).pair q = s.pair q := rfl
@[simp] theorem State.flags_addTicks (s : State) (n : Nat) :
    (s.addTicks n).flags = s.flags := rfl
@[simp] theorem State.sp_addTicks (s : State) (n : Nat) :
    (s.addTicks n).sp = s.sp := rfl
@[simp] theorem State.pc_addTicks (s : State) (n : Nat) :
    (s.addTicks n).pc = s.pc := rfl
@[simp] theorem State.ime_addTicks (s : State) (n : Nat) :
    (s.addTicks n).ime = s.ime := rfl
@[simp] theorem State.halt_addTicks (s : State) (n : Nat) :
    (s.addTicks n).halt = s.halt := rfl
@[simp] theorem State.ext_addTicks (s : State) (n : Nat) :
    (s.addTicks n).ext = s.ext := rfl
@[simp] theorem State.cyc_addTicks (s : State) (n : Nat) :
    (s.addTicks n).cyc = s.cyc + n := rfl
@[simp] theorem State.mem_addTicks (s : State) (n : Nat) :
    (s.addTicks n).mem = s.mem := rfl
@[simp] theorem State.read8_addTicks (s : State) (n : Nat) (x : Word) :
    (s.addTicks n).read8 x = s.read8 x := rfl
@[simp] theorem State.read16_addTicks (s : State) (n : Nat) (x : Word) :
    (s.addTicks n).read16 x = s.read16 x := rfl
@[simp] theorem State.intDispatchTicks_addTicks (s : State) (n : Nat) :
    (s.addTicks n).intDispatchTicks = s.intDispatchTicks := rfl

@[simp] theorem State.regs_write8 (s : State) (a : Word) (v : Byte) :
    (s.write8 a v).regs = s.regs := rfl
@[simp] theorem State.reg_write8 (s : State) (a : Word) (v : Byte) (r' : Reg8) :
    (s.write8 a v).reg r' = s.reg r' := rfl
@[simp] theorem State.pair_write8 (s : State) (a : Word) (v : Byte) (q : Pair) :
    (s.write8 a v).pair q = s.pair q := rfl
@[simp] theorem State.flags_write8 (s : State) (a : Word) (v : Byte) :
    (s.write8 a v).flags = s.flags := rfl
@[simp] theorem State.sp_write8 (s : State) (a : Word) (v : Byte) :
    (s.write8 a v).sp = s.sp := rfl
@[simp] theorem State.pc_write8 (s : State) (a : Word) (v : Byte) :
    (s.write8 a v).pc = s.pc := rfl
@[simp] theorem State.ime_write8 (s : State) (a : Word) (v : Byte) :
    (s.write8 a v).ime = s.ime := rfl
@[simp] theorem State.halt_write8 (s : State) (a : Word) (v : Byte) :
    (s.write8 a v).halt = s.halt := rfl
@[simp] theorem State.ext_write8 (s : State) (a : Word) (v : Byte) :
    (s.write8 a v).ext = s.ext := rfl
@[simp] theorem State.cyc_write8 (s : State) (a : Word) (v : Byte) :
    (s.write8 a v).cyc = s.cyc := rfl
@[simp] theorem State.mem_write8 (s : State) (a : Word) (v : Byte) :
    (s.write8 a v).mem = s.mem.write a v := rfl
@[simp] theorem State.intDispatchTicks_write8 (s : State) (a : Word) (v : Byte) :
    (s.write8 a v).intDispatchTicks = s.intDispatchTicks := rfl

@[simp] theorem State.regs_write16 (s : State) (a v : Word) :
    (s.write16 a v).regs = s.regs := rfl
@[simp] theorem State.reg_write16 (s : State) (a v : Word) (r' : Reg8) :
    (s.write16 a v).reg r' = s.reg r' := rfl
@[simp] theorem State.pair_write16 (s : State) (a v : Word) (q : Pair) :
    (s.write16 a v).pair q = s.pair q := rfl
@[simp] theorem State.flags_write16 (s : State) (a v : Word) :
    (s.write16 a v).flags = s.flags := rfl
@[simp] theorem State.sp_write16 (s : State) (a v : Word) :
    (s.write16 a v).sp = s.sp := rfl
@[simp] theorem State.pc_write16 (s : State) (a v : Word) :
    (s.write16 a v).pc = s.pc := rfl
@[simp] theorem State.ime_write16 (s : State) (a v : Word) :
    (s.write16 a v).ime = s.ime := rfl
@[simp] theorem State.halt_write16 (s : State) (a v : Word) :
    (s.write16 a v).halt = s.halt := rfl
@[simp] theorem State.ext_write16 (s : State) (a v : Word) :
    (s.write16 a v).ext = s.ext := rfl
@[simp] theorem State.cyc_write16 (s : State) (a v : Word) :
    (s.write16 a v).cyc = s.cyc := rfl
@[simp] theorem State.mem_write16 (s : State) (a v : Word) :
    (s.write16 a v).mem = s.mem.writeWord a v := rfl
@[simp] theorem State.intDispatchTicks_write16 (s : State) (a v : Word) :
    (s.write16 a v).intDispatchTicks = s.intDispatchTicks := rfl

@[simp] theorem State.regs_privilegedWrite (s : State) (a : Word) (v : Byte) :
    (s.privilegedWrite a v).regs = s.regs := rfl
@[simp] theorem State.reg_privilegedWrite (s : State) (a : Word) (v : Byte) (r' : Reg8) :
    (s.privilegedWrite a v).reg r' = s.reg r' := rfl
@[simp] theorem State.pair_privilegedWrite (s : State) (a : Word) (v : Byte) (q : Pair) :
    (s.privilegedWrite a v).pair q = s.pair q := rfl
@[simp] theorem State.flags_privilegedWrite (s : State) (a : Word) (v : Byte) :
    (s.privilegedWrite a v).flags = s.flags := rfl
@[simp] theorem State.sp_privilegedWrite (s : State) (a : Word) (v : Byte) :
    (s.privilegedWrite a v).sp = s.sp := rfl
@[simp] theorem State.pc_privilegedWrite (s : State) (a : Word) (v : Byte) :
    (s.privilegedWrite a v).pc = s.pc := rfl
@[simp] theorem State.ime_privilegedWrite (s : State) (a : Word) (v : Byte) :
    (s.privilegedWrite a v).ime = s.ime := rfl
@[simp] theorem State.halt_privilegedWrite (s : State) (a : Word) (v : Byte) :
    (s.privilegedWrite a v).halt = s.halt := rfl
@[simp] theorem State.ext_privilegedWrite (s : State) (a : Word) (v : Byte) :
    (s.privilegedWrite a v).ext = s.ext := rfl
@[simp] theorem State.cyc_privilegedWrite (s : State) (a : Word) (v : Byte) :
    (s.privilegedWrite a v).cyc = s.cyc := rfl
@[simp] theorem State.mem_privilegedWrite (s : State) (a : Word) (v : Byte) :
    (s.privilegedWrite a v).mem = s.mem.privilegedWrite a v := rfl
@[simp] theorem State.intDispatchTicks_privilegedWrite (s : State) (a : Word) (v : Byte) :
    (s.privilegedWrite a v).intDispatchTicks = s.intDispatchTicks := rfl

@[simp] theorem State.regs_push16 (s : State) (v : Word) :
    (s.push16 v).regs = s.regs := rfl
@[simp] theorem State.reg_push16 (s : State) (v : Word) (r' : Reg8) :
    (s.push16 v).reg r' = s.reg r' := rfl
@[simp] theorem State.pair_push16 (s : State) (v : Word) (q : Pair) :
    (s.push16 v).pair q = s.pair q := rfl
@[simp] theorem State.flags_push16 (s : State) (v : Word) :
    (s.push16 v).flags = s.flags := rfl
@[simp] theorem State.sp_push16 (s : State) (v : Word) :
    (s.push16 v).sp = s.sp - 2 := rfl
@[simp] theorem State.pc_push16 (s : State) (v : Word) :
    (s.push16 v).pc = s.pc := rfl
@[simp] theorem State.ime_push16 (s : State) (v : Word) :
    (s.push16 v).ime = s.ime := rfl
@[simp] theorem State.halt_push16 (s : State) (v : Word) :
    (s.push16 v).halt = s.halt := rfl
@[simp] theorem State.ext_push16 (s : State) (v : Word) :
    (s.push16 v).ext = s.ext := rfl
@[simp] theorem State.cyc_push16 (s : State) (v : Word) :
    (s.push16 v).cyc = s.cyc := rfl
@[simp] theorem State.mem_push16 (s : State) (v : Word) :
    (s.push16 v).mem = s.mem.writeWord (s.sp - 2) v := rfl
@[simp] theorem State.intDispatchTicks_push16 (s : State) (v : Word) :
    (s.push16 v).intDispatchTicks = s.intDispatchTicks := rfl

@[simp] theorem State.regs_popDone (s : State) :
    s.popDone.regs = s.regs := rfl
@[simp] theorem State.reg_popDone (s : State) (r' : Reg8) :
    s.popDone.reg r' = s.reg r' := rfl
@[simp] theorem State.pair_popDone (s : State) (q : Pair) :
    s.popDone.pair q = s.pair q := rfl
@[simp] theorem State.flags_popDone (s : State) :
    s.popDone.flags = s.flags := rfl
@[simp] theorem State.sp_popDone (s : State) :
    s.popDone.sp = s.sp + 2 := rfl
@[simp] theorem State.pc_popDone (s : State) :
    s.popDone.pc = s.pc := rfl
@[simp] theorem State.ime_popDone (s : State) :
    s.popDone.ime = s.ime := rfl
@[simp] theorem State.halt_popDone (s : State) :
    s.popDone.halt = s.halt := rfl
@[simp] theorem State.ext_popDone (s : State) :
    s.popDone.ext = s.ext := rfl
@[simp] theorem State.cyc_popDone (s : State) :
    s.popDone.cyc = s.cyc := rfl
@[simp] theorem State.mem_popDone (s : State) :
    s.popDone.mem = s.mem := rfl
@[simp] theorem State.read8_popDone (s : State) (x : Word) :
    s.popDone.read8 x = s.read8 x := rfl
@[simp] theorem State.read16_popDone (s : State) (x : Word) :
    s.popDone.read16 x = s.read16 x := rfl
@[simp] theorem State.intDispatchTicks_popDone (s : State) :
    s.popDone.intDispatchTicks = s.intDispatchTicks := rfl

@[simp] theorem State.regs_advance (s : State) (l n : Nat) :
    (s.advance l n).regs = s.regs := rfl
@[simp] theorem State.reg_advance (s : State) (l n : Nat) (r' : Reg8) :
    (s.advance l n).reg r' = s.reg r' := rfl
@[simp] theorem State.pair_advance (s : State) (l n : Nat) (q : Pair) :
    (s.advance l n).pair q = s.pair q := rfl
@[simp] theorem State.flags_advance (s : State) (l n : Nat) :
    (s.advance l n).flags = s.flags := rfl
@[simp] theorem State.sp_advance (s : State) (l n : Nat) :
    (s.advance l n).sp = s.sp := rfl
@[simp] theorem State.pc_advance (s : State) (l n : Nat) :
    (s.advance l n).pc = s.pc + BitVec.ofNat 16 l := rfl
@[simp] theorem State.ime_advance (s : State) (l n : Nat) :
    (s.advance l n).ime = s.ime := rfl
@[simp] theorem State.halt_advance (s : State) (l n : Nat) :
    (s.advance l n).halt = s.halt := rfl
@[simp] theorem State.ext_advance (s : State) (l n : Nat) :
    (s.advance l n).ext = s.ext := rfl
@[simp] theorem State.cyc_advance (s : State) (l n : Nat) :
    (s.advance l n).cyc = s.cyc + n := rfl
@[simp] theorem State.mem_advance (s : State) (l n : Nat) :
    (s.advance l n).mem = s.mem := rfl
@[simp] theorem State.read8_advance (s : State) (l n : Nat) (x : Word) :
    (s.advance l n).read8 x = s.read8 x := rfl
@[simp] theorem State.read16_advance (s : State) (l n : Nat) (x : Word) :
    (s.advance l n).read16 x = s.read16 x := rfl
@[simp] theorem State.intDispatchTicks_advance (s : State) (l n : Nat) :
    (s.advance l n).intDispatchTicks = s.intDispatchTicks := rfl

@[simp] theorem State.regs_goTo (s : State) (a : Word) (n : Nat) :
    (s.goTo a n).regs = s.regs := rfl
@[simp] theorem State.reg_goTo (s : State) (a : Word) (n : Nat) (r' : Reg8) :
    (s.goTo a n).reg r' = s.reg r' := rfl
@[simp] theorem State.pair_goTo (s : State) (a : Word) (n : Nat) (q : Pair) :
    (s.goTo a n).pair q = s.pair q := rfl
@[simp] theorem State.flags_goTo (s : State) (a : Word) (n : Nat) :
    (s.goTo a n).flags = s.flags := rfl
@[simp] theorem State.sp_goTo (s : State) (a : Word) (n : Nat) :
    (s.goTo a n).sp = s.sp := rfl
@[simp] theorem State.pc_goTo (s : State) (a : Word) (n : Nat) :
    (s.goTo a n).pc = a := rfl
@[simp] theorem State.ime_goTo (s : State) (a : Word) (n : Nat) :
    (s.goTo a n).ime = s.ime := rfl
@[simp] theorem State.halt_goTo (s : State) (a : Word) (n : Nat) :
    (s.goTo a n).halt = s.halt := rfl
@[simp] theorem State.ext_goTo (s : State) (a : Word) (n : Nat) :
    (s.goTo a n).ext = s.ext := rfl
@[simp] theorem State.cyc_goTo (s : State) (a : Word) (n : Nat) :
    (s.goTo a n).cyc = s.cyc + n := rfl
@[simp] theorem State.mem_goTo (s : State) (a : Word) (n : Nat) :
    (s.goTo a n).mem = s.mem := rfl
@[simp] theorem State.read8_goTo (s : State) (a : Word) (n : Nat) (x : Word) :
    (s.goTo a n).read8 x = s.read8 x := rfl
@[simp] theorem State.read16_goTo (s : State) (a : Word) (n : Nat) (x : Word) :
    (s.goTo a n).read16 x = s.read16 x := rfl
@[simp] theorem State.intDispatchTicks_goTo (s : State) (a : Word) (n : Nat) :
    (s.goTo a n).intDispatchTicks = s.intDispatchTicks := rfl

/-! ## The register file -/

theorem maskF_maskF (v : Byte) : maskF (maskF v) = maskF v := by
  simp only [maskF]; ext i; simp

theorem maskF_low (v : Byte) : maskF v &&& 0x0F = 0 := by
  revert v; unfold maskF; decide

@[simp] theorem State.reg_setReg_self (s : State) (r : Reg8) (v : Byte) :
    (s.setReg r v).reg r = if r = .f then maskF v else v := by
  cases r <;> first | rfl | exact maskF_maskF v

@[simp] theorem State.reg_setReg_of_ne (s : State) (r r' : Reg8) (v : Byte) (h : r' ≠ r) :
    (s.setReg r v).reg r' = s.reg r' := by
  cases r <;> cases r' <;> first | rfl | exact absurd rfl h

theorem State.reg_setReg (s : State) (r r' : Reg8) (v : Byte) :
    (s.setReg r v).reg r' = if r' = r then (if r = .f then maskF v else v) else s.reg r' := by
  by_cases h : r' = r
  · subst h; simp
  · simp [h]

@[simp] theorem State.flags_setReg (s : State) (r : Reg8) (v : Byte) (h : r ≠ .f) :
    (s.setReg r v).flags = s.flags := by
  cases r <;> first | rfl | exact absurd rfl h

end Machine

@[simp] theorem OpReg.reg_ne_f (r : OpReg) : r.reg ≠ .f := by cases r <;> decide

@[simp] theorem Pair.hi_ne_lo (p : Pair) : p.hi ≠ p.lo := by cases p <;> decide

@[simp] theorem Pair.hi_ne_f (p : Pair) : p.hi ≠ .f := by cases p <;> decide

theorem Pair.lo_eq_f (p : Pair) : p.lo = .f ↔ p = .af := by cases p <;> decide

namespace Machine

@[simp] theorem State.flags_setOpReg (s : State) (r : OpReg) (v : Byte) :
    (s.setReg r.reg v).flags = s.flags := s.flags_setReg _ _ r.reg_ne_f

@[simp] theorem State.reg_setOpReg (s : State) (r : OpReg) (v : Byte) : (s.setReg r.reg v).reg r.reg = v := by
  cases r <;> rfl

/-! ## Pairs -/

theorem joinBytes_toNat (a b : Byte) : (joinBytes a b).toNat = a.toNat * 256 + b.toNat := by
  have hb := b.isLt
  unfold joinBytes
  rw [BitVec.toNat_append, Nat.shiftLeft_eq, Nat.mul_comm a.toNat, ← Nat.two_pow_add_eq_or_of_lt hb]

theorem hiByte_toNat (v : Word) : (hiByte v).toNat = v.toNat / 256 := by
  have := v.isLt
  simp only [hiByte, BitVec.extractLsb'_toNat, Nat.shiftRight_eq_div_pow]; omega

theorem loByte_toNat (v : Word) : (loByte v).toNat = v.toNat % 256 := by
  simp only [loByte, BitVec.extractLsb'_toNat, Nat.shiftRight_eq_div_pow]; omega

@[simp] theorem join_hi_lo (v : Word) : joinBytes (hiByte v) (loByte v) = v := by
  apply BitVec.eq_of_toNat_eq; rw [joinBytes_toNat, hiByte_toNat, loByte_toNat]; omega

@[simp] theorem hiByte_join (a b : Byte) : hiByte (joinBytes a b) = a := by
  have := b.isLt
  apply BitVec.eq_of_toNat_eq; rw [hiByte_toNat, joinBytes_toNat]; omega

@[simp] theorem loByte_join (a b : Byte) : loByte (joinBytes a b) = b := by
  have := b.isLt
  apply BitVec.eq_of_toNat_eq; rw [loByte_toNat, joinBytes_toNat]; omega

theorem State.reg_setPair (s : State) (p : Pair) (v : Word) (r : Reg8) :
    (s.setPair p v).reg r =
      if r = p.lo then (if p = .af then maskF (loByte v) else loByte v) else if r = p.hi then hiByte v
      else s.reg r := by
  cases p <;> cases r <;> first | rfl | exact maskF_maskF _

@[simp] theorem State.pair_setPair_self (s : State) (p : Pair) (v : Word) (h : p ≠ .af) :
    (s.setPair p v).pair p = v := by
  cases p <;> first | exact join_hi_lo v | exact absurd rfl h

@[simp] theorem State.reg_setPair_of_ne (s : State) (p : Pair) (v : Word) (r : Reg8) (hh : r ≠ p.hi)
    (hl : r ≠ p.lo) : (s.setPair p v).reg r = s.reg r := by
  rw [State.reg_setPair, if_neg hl, if_neg hh]

@[simp] theorem State.flags_setPair (s : State) (p : Pair) (v : Word) (h : p ≠ .af) :
    (s.setPair p v).flags = s.flags := by
  cases p <;> first | rfl | exact absurd rfl h

/-! ## Flags -/

@[simp] theorem State.flags_setFlags (s : State) (fl : Flags) : (s.setFlags fl).flags = fl := by
  show Flags.mk _ _ _ _ = _
  simp only [State.setFlags, State.reg_setReg_self, if_true]
  obtain ⟨z, n, h, c⟩ := fl
  cases z <;> cases n <;> cases h <;> cases c <;> decide

@[simp] theorem State.reg_setFlags (s : State) (fl : Flags) (r : Reg8) (h : r ≠ .f) :
    (s.setFlags fl).reg r = s.reg r := State.reg_setReg_of_ne _ _ _ _ h

@[simp] theorem State.reg_setFlags_op (s : State) (fl : Flags) (r : OpReg) :
    (s.setFlags fl).reg r.reg = s.reg r.reg := State.reg_setFlags _ _ _ r.reg_ne_f

@[simp] theorem State.pair_setFlags (s : State) (fl : Flags) (p : Pair) (h : p ≠ .af) :
    (s.setFlags fl).pair p = s.pair p := by
  cases p <;> first | rfl | exact absurd rfl h

/-! ## The low nibble of F -/

/-- A write of a register leaves the low nibble of F zero where it was, and makes it so when it writes F. -/
theorem RegFile.low_set (rf : RegFile) (r : Reg8) (v : Byte) (h : rf.f &&& 0x0F = 0) :
    (rf.set r v).f &&& 0x0F = 0 := by
  cases r <;> first | exact h | exact maskF_low v

/-! ## Operands of table rp and 8-bit locations -/

theorem State.setWide_pair (s : State) (v : Word) :
    s.setWide .bc v = s.setPair .bc v ∧ s.setWide .de v = s.setPair .de v ∧ s.setWide .hl v = s.setPair .hl v ∧
      s.setWide .sp v = s.setSp v := ⟨rfl, rfl, rfl, rfl⟩

@[simp] theorem State.pc_setWide (s : State) (r : WideReg) (v : Word) : (s.setWide r v).pc = s.pc := by
  cases r <;> rfl
@[simp] theorem State.ime_setWide (s : State) (r : WideReg) (v : Word) : (s.setWide r v).ime = s.ime := by
  cases r <;> rfl
@[simp] theorem State.halt_setWide (s : State) (r : WideReg) (v : Word) : (s.setWide r v).halt = s.halt := by
  cases r <;> rfl
@[simp] theorem State.ext_setWide (s : State) (r : WideReg) (v : Word) : (s.setWide r v).ext = s.ext := by
  cases r <;> rfl
@[simp] theorem State.cyc_setWide (s : State) (r : WideReg) (v : Word) : (s.setWide r v).cyc = s.cyc := by
  cases r <;> rfl
@[simp] theorem State.mem_setWide (s : State) (r : WideReg) (v : Word) : (s.setWide r v).mem = s.mem := by
  cases r <;> rfl
@[simp] theorem State.intDispatchTicks_setWide (s : State) (r : WideReg) (v : Word) : (s.setWide r v).intDispatchTicks = s.intDispatchTicks := by
  cases r <;> rfl
@[simp] theorem State.pc_put (x : Loc8) (v : Byte) (s : State) : (x.put v s).pc = s.pc := by
  cases x <;> rfl
@[simp] theorem State.ime_put (x : Loc8) (v : Byte) (s : State) : (x.put v s).ime = s.ime := by
  cases x <;> rfl
@[simp] theorem State.halt_put (x : Loc8) (v : Byte) (s : State) : (x.put v s).halt = s.halt := by
  cases x <;> rfl
@[simp] theorem State.ext_put (x : Loc8) (v : Byte) (s : State) : (x.put v s).ext = s.ext := by
  cases x <;> rfl
@[simp] theorem State.cyc_put (x : Loc8) (v : Byte) (s : State) : (x.put v s).cyc = s.cyc := by
  cases x <;> rfl
@[simp] theorem State.sp_put (x : Loc8) (v : Byte) (s : State) : (x.put v s).sp = s.sp := by
  cases x <;> rfl
@[simp] theorem State.intDispatchTicks_put (x : Loc8) (v : Byte) (s : State) : (x.put v s).intDispatchTicks = s.intDispatchTicks := by
  cases x <;> rfl

@[simp] theorem State.flags_setWide (s : State) (r : WideReg) (v : Word) : (s.setWide r v).flags = s.flags := by
  cases r <;> rfl

@[simp] theorem State.wide_setWide (s : State) (r : WideReg) (v : Word) : (s.setWide r v).wide r = v := by
  cases r
  · exact s.pair_setPair_self .bc v nofun
  · exact s.pair_setPair_self .de v nofun
  · exact s.pair_setPair_self .hl v nofun
  · rfl

@[simp] theorem State.flags_put (x : Loc8) (v : Byte) (s : State) : (x.put v s).flags = s.flags := by
  cases x with
  | reg r => exact s.flags_setOpReg r v
  | atHl => exact s.flags_write8 s.hl v

end Machine

end Sys2Proof
end

