-- ==== Sys2Proof/Laws/Memory.lean ====
section
/-! SUPPORT. Reading after writing in the reference memory, and the canonical form of what memory lists. The reading
laws hold of every list of entries, canonical or not. -/

namespace Sys2Proof.Machine

/-! ## Lookup through erase and place -/

theorem Cells.lookup_erase_self (m : Cells) (k : Nat) : (m.erase k).lookup k = Config.unlistedByte := by
  induction m with
  | nil => rfl
  | cons x m ih =>
    by_cases h : x.1 = k
    · simpa [Cells.erase, h] using ih
    · simpa [Cells.erase, h, Cells.lookup] using ih

theorem Cells.lookup_erase_of_ne (m : Cells) (k j : Nat) (hj : j ≠ k) : (m.erase k).lookup j = m.lookup j := by
  induction m with
  | nil => rfl
  | cons x m ih =>
    by_cases h : x.1 = k
    · simpa [Cells.erase, h, Cells.lookup, hj.symm] using ih
    · simpa [Cells.erase, h, Cells.lookup] using congrArg (fun b => if x.1 = j then x.2 else b) ih

theorem Cells.lookup_place_self (m : Cells) (k : Nat) (v : Byte) (h : ∀ x ∈ m, x.1 ≠ k) :
    (m.place k v).lookup k = v := by
  induction m with
  | nil => simp [Cells.place, Cells.lookup]
  | cons x m ih =>
    by_cases hk : k < x.1
    · simp [Cells.place, hk, Cells.lookup]
    · simp [Cells.place, hk, Cells.lookup, h x (by simp), ih (fun y hy => h y (by simp [hy]))]

theorem Cells.lookup_place_of_ne (m : Cells) (k j : Nat) (v : Byte) (hj : j ≠ k) :
    (m.place k v).lookup j = m.lookup j := by
  induction m with
  | nil => simp [Cells.place, Cells.lookup, hj.symm]
  | cons x m ih =>
    by_cases hk : k < x.1
    · simp [Cells.place, hk, Cells.lookup, hj.symm]
    · simp [Cells.place, hk, Cells.lookup, ih]

theorem Cells.erase_keys (m : Cells) (k : Nat) : ∀ x ∈ m.erase k, x.1 ≠ k := by
  intro x hx; simpa [Cells.erase] using (List.mem_filter.1 hx).2

@[simp] theorem Cells.lookup_store_self (m : Cells) (k : Nat) (v : Byte) : (m.store k v).lookup k = v := by
  unfold Cells.store
  split
  · rw [Cells.lookup_erase_self]; exact Eq.symm ‹_›
  · exact Cells.lookup_place_self _ _ _ (m.erase_keys _)

theorem Cells.lookup_store_of_ne (m : Cells) (k j : Nat) (v : Byte) (hj : j ≠ k) :
    (m.store k v).lookup j = m.lookup j := by
  unfold Cells.store
  split
  · exact Cells.lookup_erase_of_ne _ _ _ hj
  · rw [Cells.lookup_place_of_ne _ _ _ _ hj, Cells.lookup_erase_of_ne _ _ _ hj]

/-! ## The parameter Mem: no operation changes which instance it is -/

@[simp] theorem Memory.isFlat_write (m : Memory) (a : Word) (v : Byte) : (m.write a v).isFlat = m.isFlat := by
  cases m <;> rfl

@[simp] theorem Memory.isFlat_privilegedWrite (m : Memory) (a : Word) (v : Byte) :
    (m.privilegedWrite a v).isFlat = m.isFlat := by
  cases m <;> rfl

@[simp] theorem Memory.isFlat_writeWord (m : Memory) (a v : Word) : (m.writeWord a v).isFlat = m.isFlat := by
  cases m with
  | flat _ => rfl
  | other k => simp only [Memory.writeWord]; split <;> rfl

/-- In the reference memory the privileged write is a plain one. -/
theorem Memory.privilegedWrite_eq (m : Memory) (a : Word) (v : Byte) (h : m.isFlat = true) :
    m.privilegedWrite a v = m.write a v := by
  cases m <;> first | rfl | exact absurd h nofun

/-- In the reference memory a word write is two byte writes. -/
theorem Memory.writeWord_eq (m : Memory) (a v : Word) (h : m.isFlat = true) :
    m.writeWord a v = (m.write a (loByte v)).write (a + 1) (hiByte v) := by
  cases m <;> first | rfl | exact absurd h nofun

/-! ## The laws of a byte and of a word, in the reference memory -/

theorem Memory.read_write_self (m : Memory) (a : Word) (v : Byte) (h : m.isFlat = true) :
    (m.write a v).read a = v := by
  cases m with
  | flat c => exact c.lookup_store_self _ _
  | other _ => exact absurd h nofun

theorem Memory.read_write_of_ne (m : Memory) (a x : Word) (v : Byte) (hm : m.isFlat = true) (h : x ≠ a) :
    (m.write a v).read x = m.read x := by
  cases m with
  | flat c => exact c.lookup_store_of_ne _ _ _ (fun e => h (BitVec.eq_of_toNat_eq e))
  | other _ => exact absurd hm nofun

/-- Reading any byte after a byte is written. -/
theorem Memory.read_write (m : Memory) (a x : Word) (v : Byte) (h : m.isFlat = true) :
    (m.write a v).read x = if x = a then v else m.read x := by
  by_cases hx : x = a
  · subst hx; simp [Memory.read_write_self _ _ _ h]
  · simp [hx, Memory.read_write_of_ne _ _ _ _ h hx]

theorem State.read8_write8 (s : State) (a x : Word) (v : Byte) (h : s.mem.isFlat = true) :
    (s.write8 a v).read8 x = if x = a then v else s.read8 x :=
  Memory.read_write _ _ _ _ h

theorem State.read8_privilegedWrite (s : State) (a x : Word) (v : Byte) (h : s.mem.isFlat = true) :
    (s.privilegedWrite a v).read8 x = if x = a then v else s.read8 x := by
  show (s.mem.privilegedWrite a v).read x = _
  rw [Memory.privilegedWrite_eq _ _ _ h]; exact Memory.read_write _ _ _ _ h

theorem Word.add_one_ne (a : Word) : a + 1 ≠ a := by bv_omega

/-- Reading any byte after a word is written. -/
theorem State.read8_write16 (s : State) (a v x : Word) (h : s.mem.isFlat = true) :
    (s.write16 a v).read8 x =
      if x = a + 1 then hiByte v else if x = a then loByte v else s.read8 x := by
  show (s.mem.writeWord a v).read x = _
  rw [Memory.writeWord_eq _ _ _ h, Memory.read_write _ _ _ _ (by simpa using h), Memory.read_write _ _ _ _ h]; rfl

/-- A word written is the word read. -/
theorem State.read16_write16 (s : State) (a v : Word) (h : s.mem.isFlat = true) : (s.write16 a v).read16 a = v := by
  simp [State.read16, State.read8_write16 _ _ _ _ h]

/-- Reading any byte after a push. -/
theorem State.read8_push16 (s : State) (v x : Word) (h : s.mem.isFlat = true) :
    (s.push16 v).read8 x =
      if x = s.sp - 2 + 1 then hiByte v else if x = s.sp - 2 then loByte v else s.read8 x :=
  State.read8_write16 (s.setSp (s.sp - 2)) (s.sp - 2) v x h

/-- A pop after a push gives the word pushed. -/
theorem State.popValue_push16 (s : State) (v : Word) (h : s.mem.isFlat = true) : (s.push16 v).popValue = v :=
  State.read16_write16 (s.setSp (s.sp - 2)) (s.sp - 2) v h

/-! ## The canonical form -/

theorem Cells.wf_nil : Cells.wf [] := ⟨List.Pairwise.nil, by simp⟩

theorem Cells.wf_erase (m : Cells) (k : Nat) (h : m.wf) : (m.erase k).wf :=
  ⟨h.1.filter _, fun x hx => h.2 x (List.mem_filter.1 hx).1⟩

theorem Cells.mem_place (m : Cells) (k : Nat) (v : Byte) (y : Host.Cell) (h : y ∈ m.place k v) :
    y = (k, v) ∨ y ∈ m := by
  induction m with
  | nil => simpa [Cells.place] using h
  | cons x m ih =>
    by_cases hk : k < x.1
    · simpa [Cells.place, hk] using h
    · simp only [Cells.place, hk, if_false, List.mem_cons] at h ⊢
      rcases h with h | h
      · exact .inr (.inl h)
      · rcases ih h with h | h
        · exact .inl h
        · exact .inr (.inr h)

theorem Cells.wf_place (m : Cells) (k : Nat) (v : Byte) (h : m.wf) (hk : k < Config.addressCount)
    (hv : v ≠ Config.unlistedByte) (hm : ∀ x ∈ m, x.1 ≠ k) : (m.place k v).wf := by
  refine ⟨?_, fun y hy => ?_⟩
  · obtain ⟨h, -⟩ := h
    induction m with
    | nil => simp [Cells.place]
    | cons x m ih =>
      obtain ⟨hx, hr⟩ := List.pairwise_cons.1 h
      by_cases hlt : k < x.1
      · simp only [Cells.place, hlt, if_true]
        refine List.pairwise_cons.2 ⟨fun y hy => ?_, h⟩
        rcases List.mem_cons.1 hy with rfl | hy
        · exact hlt
        · exact hlt.trans (hx y hy)
      · simp only [Cells.place, hlt, if_false]
        refine List.pairwise_cons.2 ⟨fun y hy => ?_, ih (fun y hy => hm y (by simp [hy])) hr⟩
        rcases Cells.mem_place _ _ _ _ hy with rfl | hy
        · have := hm x (by simp); show x.1 < k; omega
        · exact hx y hy
  · rcases Cells.mem_place _ _ _ _ hy with rfl | hy
    · exact ⟨hk, hv⟩
    · exact h.2 y hy

theorem Cells.wf_store (m : Cells) (a : Word) (v : Byte) (h : m.wf) : (m.store a.toNat v).wf := by
  unfold Cells.store
  split
  · exact m.wf_erase _ h
  · exact Cells.wf_place _ _ _ (m.wf_erase _ h) a.isLt ‹_› (m.erase_keys _)

/-- Every write keeps the canonical form. -/
theorem Memory.wf_write (m : Memory) (a : Word) (v : Byte) (h : m.wf) : (m.write a v).wf := by
  cases m with
  | flat c => exact c.wf_store a v h
  | other _ => exact Cells.wf_nil

theorem Memory.wf_privilegedWrite (m : Memory) (a : Word) (v : Byte) (h : m.wf) : (m.privilegedWrite a v).wf := by
  cases m with
  | flat c => exact c.wf_store a v h
  | other _ => exact Cells.wf_nil

theorem Memory.wf_writeWord (m : Memory) (a v : Word) (h : m.wf) : (m.writeWord a v).wf := by
  unfold Memory.writeWord
  split
  · exact Memory.wf_write _ _ _ (Memory.wf_write _ _ _ h)
  · split <;> exact Memory.wf_write _ _ _ (Memory.wf_write _ _ _ h)

theorem State.wf_write8 (s : State) (a : Word) (v : Byte) (h : s.mem.wf) : (s.write8 a v).mem.wf :=
  s.mem.wf_write a v h

theorem State.wf_write16 (s : State) (a v : Word) (h : s.mem.wf) : (s.write16 a v).mem.wf :=
  s.mem.wf_writeWord a v h

theorem State.wf_push16 (s : State) (v : Word) (h : s.mem.wf) : (s.push16 v).mem.wf :=
  s.mem.wf_writeWord _ v h

theorem State.wf_privilegedWrite (s : State) (a : Word) (v : Byte) (h : s.mem.wf) :
    (s.privilegedWrite a v).mem.wf :=
  s.mem.wf_privilegedWrite a v h

theorem State.reset_memory_wf : State.reset.mem.wf := Cells.wf_nil

end Sys2Proof.Machine
end

