-- ==== Sys2Proof/Laws/PerInstr.lean ====
section
/-! SUPPORT. Per-instruction lemmas. The family `FormView` says of each instruction that its form gives it
back; with it a statement about all instructions can be proved form by form. The family `OwnEntry` says that the
decoder's table has each instruction at the opcode byte the encoder gives it; the byte is written out from the
spec's opcode table in each lemma. -/

namespace Sys2Proof.Laws

/-- The instruction of the form of `i` is `i`. -/
def FormView.Statement (i : Instr) : Prop := i.form.instr = i

theorem FormView.nop : FormView.Statement (.nop) := rfl
theorem FormView.ld_bc_nn (nn : Word) : FormView.Statement (.ld_bc_nn nn) := rfl
theorem FormView.ld_at_bc_a : FormView.Statement (.ld_at_bc_a) := rfl
theorem FormView.inc_bc : FormView.Statement (.inc_bc) := rfl
theorem FormView.inc_b : FormView.Statement (.inc_b) := rfl
theorem FormView.dec_b : FormView.Statement (.dec_b) := rfl
theorem FormView.ld_b_n (n : Byte) : FormView.Statement (.ld_b_n n) := rfl
theorem FormView.rlca : FormView.Statement (.rlca) := rfl
theorem FormView.ld_at_nn_sp (nn : Word) : FormView.Statement (.ld_at_nn_sp nn) := rfl
theorem FormView.add_hl_bc : FormView.Statement (.add_hl_bc) := rfl
theorem FormView.ld_a_at_bc : FormView.Statement (.ld_a_at_bc) := rfl
theorem FormView.dec_bc : FormView.Statement (.dec_bc) := rfl
theorem FormView.inc_c : FormView.Statement (.inc_c) := rfl
theorem FormView.dec_c : FormView.Statement (.dec_c) := rfl
theorem FormView.ld_c_n (n : Byte) : FormView.Statement (.ld_c_n n) := rfl
theorem FormView.rrca : FormView.Statement (.rrca) := rfl
theorem FormView.stop (n : Byte) : FormView.Statement (.stop n) := rfl
theorem FormView.ld_de_nn (nn : Word) : FormView.Statement (.ld_de_nn nn) := rfl
theorem FormView.ld_at_de_a : FormView.Statement (.ld_at_de_a) := rfl
theorem FormView.inc_de : FormView.Statement (.inc_de) := rfl
theorem FormView.inc_d : FormView.Statement (.inc_d) := rfl
theorem FormView.dec_d : FormView.Statement (.dec_d) := rfl
theorem FormView.ld_d_n (n : Byte) : FormView.Statement (.ld_d_n n) := rfl
theorem FormView.rla : FormView.Statement (.rla) := rfl
theorem FormView.jr_e (e : Byte) : FormView.Statement (.jr_e e) := rfl
theorem FormView.add_hl_de : FormView.Statement (.add_hl_de) := rfl
theorem FormView.ld_a_at_de : FormView.Statement (.ld_a_at_de) := rfl
theorem FormView.dec_de : FormView.Statement (.dec_de) := rfl
theorem FormView.inc_e : FormView.Statement (.inc_e) := rfl
theorem FormView.dec_e : FormView.Statement (.dec_e) := rfl
theorem FormView.ld_e_n (n : Byte) : FormView.Statement (.ld_e_n n) := rfl
theorem FormView.rra : FormView.Statement (.rra) := rfl
theorem FormView.jr_nz_e (e : Byte) : FormView.Statement (.jr_nz_e e) := rfl
theorem FormView.ld_hl_nn (nn : Word) : FormView.Statement (.ld_hl_nn nn) := rfl
theorem FormView.ld_at_hli_a : FormView.Statement (.ld_at_hli_a) := rfl
theorem FormView.inc_hl : FormView.Statement (.inc_hl) := rfl
theorem FormView.inc_h : FormView.Statement (.inc_h) := rfl
theorem FormView.dec_h : FormView.Statement (.dec_h) := rfl
theorem FormView.ld_h_n (n : Byte) : FormView.Statement (.ld_h_n n) := rfl
theorem FormView.daa : FormView.Statement (.daa) := rfl
theorem FormView.jr_z_e (e : Byte) : FormView.Statement (.jr_z_e e) := rfl
theorem FormView.add_hl_hl : FormView.Statement (.add_hl_hl) := rfl
theorem FormView.ld_a_at_hli : FormView.Statement (.ld_a_at_hli) := rfl
theorem FormView.dec_hl : FormView.Statement (.dec_hl) := rfl
theorem FormView.inc_l : FormView.Statement (.inc_l) := rfl
theorem FormView.dec_l : FormView.Statement (.dec_l) := rfl
theorem FormView.ld_l_n (n : Byte) : FormView.Statement (.ld_l_n n) := rfl
theorem FormView.cpl : FormView.Statement (.cpl) := rfl
theorem FormView.jr_nc_e (e : Byte) : FormView.Statement (.jr_nc_e e) := rfl
theorem FormView.ld_sp_nn (nn : Word) : FormView.Statement (.ld_sp_nn nn) := rfl
theorem FormView.ld_at_hld_a : FormView.Statement (.ld_at_hld_a) := rfl
theorem FormView.inc_sp : FormView.Statement (.inc_sp) := rfl
theorem FormView.inc_at_hl : FormView.Statement (.inc_at_hl) := rfl
theorem FormView.dec_at_hl : FormView.Statement (.dec_at_hl) := rfl
theorem FormView.ld_at_hl_n (n : Byte) : FormView.Statement (.ld_at_hl_n n) := rfl
theorem FormView.scf : FormView.Statement (.scf) := rfl
theorem FormView.jr_c_e (e : Byte) : FormView.Statement (.jr_c_e e) := rfl
theorem FormView.add_hl_sp : FormView.Statement (.add_hl_sp) := rfl
theorem FormView.ld_a_at_hld : FormView.Statement (.ld_a_at_hld) := rfl
theorem FormView.dec_sp : FormView.Statement (.dec_sp) := rfl
theorem FormView.inc_a : FormView.Statement (.inc_a) := rfl
theorem FormView.dec_a : FormView.Statement (.dec_a) := rfl
theorem FormView.ld_a_n (n : Byte) : FormView.Statement (.ld_a_n n) := rfl
theorem FormView.ccf : FormView.Statement (.ccf) := rfl
theorem FormView.ld_b_b : FormView.Statement (.ld_b_b) := rfl
theorem FormView.ld_b_c : FormView.Statement (.ld_b_c) := rfl
theorem FormView.ld_b_d : FormView.Statement (.ld_b_d) := rfl
theorem FormView.ld_b_e : FormView.Statement (.ld_b_e) := rfl
theorem FormView.ld_b_h : FormView.Statement (.ld_b_h) := rfl
theorem FormView.ld_b_l : FormView.Statement (.ld_b_l) := rfl
theorem FormView.ld_b_at_hl : FormView.Statement (.ld_b_at_hl) := rfl
theorem FormView.ld_b_a : FormView.Statement (.ld_b_a) := rfl
theorem FormView.ld_c_b : FormView.Statement (.ld_c_b) := rfl
theorem FormView.ld_c_c : FormView.Statement (.ld_c_c) := rfl
theorem FormView.ld_c_d : FormView.Statement (.ld_c_d) := rfl
theorem FormView.ld_c_e : FormView.Statement (.ld_c_e) := rfl
theorem FormView.ld_c_h : FormView.Statement (.ld_c_h) := rfl
theorem FormView.ld_c_l : FormView.Statement (.ld_c_l) := rfl
theorem FormView.ld_c_at_hl : FormView.Statement (.ld_c_at_hl) := rfl
theorem FormView.ld_c_a : FormView.Statement (.ld_c_a) := rfl
theorem FormView.ld_d_b : FormView.Statement (.ld_d_b) := rfl
theorem FormView.ld_d_c : FormView.Statement (.ld_d_c) := rfl
theorem FormView.ld_d_d : FormView.Statement (.ld_d_d) := rfl
theorem FormView.ld_d_e : FormView.Statement (.ld_d_e) := rfl
theorem FormView.ld_d_h : FormView.Statement (.ld_d_h) := rfl
theorem FormView.ld_d_l : FormView.Statement (.ld_d_l) := rfl
theorem FormView.ld_d_at_hl : FormView.Statement (.ld_d_at_hl) := rfl
theorem FormView.ld_d_a : FormView.Statement (.ld_d_a) := rfl
theorem FormView.ld_e_b : FormView.Statement (.ld_e_b) := rfl
theorem FormView.ld_e_c : FormView.Statement (.ld_e_c) := rfl
theorem FormView.ld_e_d : FormView.Statement (.ld_e_d) := rfl
theorem FormView.ld_e_e : FormView.Statement (.ld_e_e) := rfl
theorem FormView.ld_e_h : FormView.Statement (.ld_e_h) := rfl
theorem FormView.ld_e_l : FormView.Statement (.ld_e_l) := rfl
theorem FormView.ld_e_at_hl : FormView.Statement (.ld_e_at_hl) := rfl
theorem FormView.ld_e_a : FormView.Statement (.ld_e_a) := rfl
theorem FormView.ld_h_b : FormView.Statement (.ld_h_b) := rfl
theorem FormView.ld_h_c : FormView.Statement (.ld_h_c) := rfl
theorem FormView.ld_h_d : FormView.Statement (.ld_h_d) := rfl
theorem FormView.ld_h_e : FormView.Statement (.ld_h_e) := rfl
theorem FormView.ld_h_h : FormView.Statement (.ld_h_h) := rfl
theorem FormView.ld_h_l : FormView.Statement (.ld_h_l) := rfl
theorem FormView.ld_h_at_hl : FormView.Statement (.ld_h_at_hl) := rfl
theorem FormView.ld_h_a : FormView.Statement (.ld_h_a) := rfl
theorem FormView.ld_l_b : FormView.Statement (.ld_l_b) := rfl
theorem FormView.ld_l_c : FormView.Statement (.ld_l_c) := rfl
theorem FormView.ld_l_d : FormView.Statement (.ld_l_d) := rfl
theorem FormView.ld_l_e : FormView.Statement (.ld_l_e) := rfl
theorem FormView.ld_l_h : FormView.Statement (.ld_l_h) := rfl
theorem FormView.ld_l_l : FormView.Statement (.ld_l_l) := rfl
theorem FormView.ld_l_at_hl : FormView.Statement (.ld_l_at_hl) := rfl
theorem FormView.ld_l_a : FormView.Statement (.ld_l_a) := rfl
theorem FormView.ld_at_hl_b : FormView.Statement (.ld_at_hl_b) := rfl
theorem FormView.ld_at_hl_c : FormView.Statement (.ld_at_hl_c) := rfl
theorem FormView.ld_at_hl_d : FormView.Statement (.ld_at_hl_d) := rfl
theorem FormView.ld_at_hl_e : FormView.Statement (.ld_at_hl_e) := rfl
theorem FormView.ld_at_hl_h : FormView.Statement (.ld_at_hl_h) := rfl
theorem FormView.ld_at_hl_l : FormView.Statement (.ld_at_hl_l) := rfl
theorem FormView.halt : FormView.Statement (.halt) := rfl
theorem FormView.ld_at_hl_a : FormView.Statement (.ld_at_hl_a) := rfl
theorem FormView.ld_a_b : FormView.Statement (.ld_a_b) := rfl
theorem FormView.ld_a_c : FormView.Statement (.ld_a_c) := rfl
theorem FormView.ld_a_d : FormView.Statement (.ld_a_d) := rfl
theorem FormView.ld_a_e : FormView.Statement (.ld_a_e) := rfl
theorem FormView.ld_a_h : FormView.Statement (.ld_a_h) := rfl
theorem FormView.ld_a_l : FormView.Statement (.ld_a_l) := rfl
theorem FormView.ld_a_at_hl : FormView.Statement (.ld_a_at_hl) := rfl
theorem FormView.ld_a_a : FormView.Statement (.ld_a_a) := rfl
theorem FormView.add_a_b : FormView.Statement (.add_a_b) := rfl
theorem FormView.add_a_c : FormView.Statement (.add_a_c) := rfl
theorem FormView.add_a_d : FormView.Statement (.add_a_d) := rfl
theorem FormView.add_a_e : FormView.Statement (.add_a_e) := rfl
theorem FormView.add_a_h : FormView.Statement (.add_a_h) := rfl
theorem FormView.add_a_l : FormView.Statement (.add_a_l) := rfl
theorem FormView.add_a_at_hl : FormView.Statement (.add_a_at_hl) := rfl
theorem FormView.add_a_a : FormView.Statement (.add_a_a) := rfl
theorem FormView.adc_a_b : FormView.Statement (.adc_a_b) := rfl
theorem FormView.adc_a_c : FormView.Statement (.adc_a_c) := rfl
theorem FormView.adc_a_d : FormView.Statement (.adc_a_d) := rfl
theorem FormView.adc_a_e : FormView.Statement (.adc_a_e) := rfl
theorem FormView.adc_a_h : FormView.Statement (.adc_a_h) := rfl
theorem FormView.adc_a_l : FormView.Statement (.adc_a_l) := rfl
theorem FormView.adc_a_at_hl : FormView.Statement (.adc_a_at_hl) := rfl
theorem FormView.adc_a_a : FormView.Statement (.adc_a_a) := rfl
theorem FormView.sub_b : FormView.Statement (.sub_b) := rfl
theorem FormView.sub_c : FormView.Statement (.sub_c) := rfl
theorem FormView.sub_d : FormView.Statement (.sub_d) := rfl
theorem FormView.sub_e : FormView.Statement (.sub_e) := rfl
theorem FormView.sub_h : FormView.Statement (.sub_h) := rfl
theorem FormView.sub_l : FormView.Statement (.sub_l) := rfl
theorem FormView.sub_at_hl : FormView.Statement (.sub_at_hl) := rfl
theorem FormView.sub_a : FormView.Statement (.sub_a) := rfl
theorem FormView.sbc_a_b : FormView.Statement (.sbc_a_b) := rfl
theorem FormView.sbc_a_c : FormView.Statement (.sbc_a_c) := rfl
theorem FormView.sbc_a_d : FormView.Statement (.sbc_a_d) := rfl
theorem FormView.sbc_a_e : FormView.Statement (.sbc_a_e) := rfl
theorem FormView.sbc_a_h : FormView.Statement (.sbc_a_h) := rfl
theorem FormView.sbc_a_l : FormView.Statement (.sbc_a_l) := rfl
theorem FormView.sbc_a_at_hl : FormView.Statement (.sbc_a_at_hl) := rfl
theorem FormView.sbc_a_a : FormView.Statement (.sbc_a_a) := rfl
theorem FormView.and_b : FormView.Statement (.and_b) := rfl
theorem FormView.and_c : FormView.Statement (.and_c) := rfl
theorem FormView.and_d : FormView.Statement (.and_d) := rfl
theorem FormView.and_e : FormView.Statement (.and_e) := rfl
theorem FormView.and_h : FormView.Statement (.and_h) := rfl
theorem FormView.and_l : FormView.Statement (.and_l) := rfl
theorem FormView.and_at_hl : FormView.Statement (.and_at_hl) := rfl
theorem FormView.and_a : FormView.Statement (.and_a) := rfl
theorem FormView.xor_b : FormView.Statement (.xor_b) := rfl
theorem FormView.xor_c : FormView.Statement (.xor_c) := rfl
theorem FormView.xor_d : FormView.Statement (.xor_d) := rfl
theorem FormView.xor_e : FormView.Statement (.xor_e) := rfl
theorem FormView.xor_h : FormView.Statement (.xor_h) := rfl
theorem FormView.xor_l : FormView.Statement (.xor_l) := rfl
theorem FormView.xor_at_hl : FormView.Statement (.xor_at_hl) := rfl
theorem FormView.xor_a : FormView.Statement (.xor_a) := rfl
theorem FormView.or_b : FormView.Statement (.or_b) := rfl
theorem FormView.or_c : FormView.Statement (.or_c) := rfl
theorem FormView.or_d : FormView.Statement (.or_d) := rfl
theorem FormView.or_e : FormView.Statement (.or_e) := rfl
theorem FormView.or_h : FormView.Statement (.or_h) := rfl
theorem FormView.or_l : FormView.Statement (.or_l) := rfl
theorem FormView.or_at_hl : FormView.Statement (.or_at_hl) := rfl
theorem FormView.or_a : FormView.Statement (.or_a) := rfl
theorem FormView.cp_b : FormView.Statement (.cp_b) := rfl
theorem FormView.cp_c : FormView.Statement (.cp_c) := rfl
theorem FormView.cp_d : FormView.Statement (.cp_d) := rfl
theorem FormView.cp_e : FormView.Statement (.cp_e) := rfl
theorem FormView.cp_h : FormView.Statement (.cp_h) := rfl
theorem FormView.cp_l : FormView.Statement (.cp_l) := rfl
theorem FormView.cp_at_hl : FormView.Statement (.cp_at_hl) := rfl
theorem FormView.cp_a : FormView.Statement (.cp_a) := rfl
theorem FormView.ret_nz : FormView.Statement (.ret_nz) := rfl
theorem FormView.pop_bc : FormView.Statement (.pop_bc) := rfl
theorem FormView.jp_nz_nn (nn : Word) : FormView.Statement (.jp_nz_nn nn) := rfl
theorem FormView.jp_nn (nn : Word) : FormView.Statement (.jp_nn nn) := rfl
theorem FormView.call_nz_nn (nn : Word) : FormView.Statement (.call_nz_nn nn) := rfl
theorem FormView.push_bc : FormView.Statement (.push_bc) := rfl
theorem FormView.add_a_n (n : Byte) : FormView.Statement (.add_a_n n) := rfl
theorem FormView.rst_00 : FormView.Statement (.rst_00) := rfl
theorem FormView.ret_z : FormView.Statement (.ret_z) := rfl
theorem FormView.ret : FormView.Statement (.ret) := rfl
theorem FormView.jp_z_nn (nn : Word) : FormView.Statement (.jp_z_nn nn) := rfl
theorem FormView.prefix_cb : FormView.Statement (.prefix_cb) := rfl
theorem FormView.call_z_nn (nn : Word) : FormView.Statement (.call_z_nn nn) := rfl
theorem FormView.call_nn (nn : Word) : FormView.Statement (.call_nn nn) := rfl
theorem FormView.adc_a_n (n : Byte) : FormView.Statement (.adc_a_n n) := rfl
theorem FormView.rst_08 : FormView.Statement (.rst_08) := rfl
theorem FormView.ret_nc : FormView.Statement (.ret_nc) := rfl
theorem FormView.pop_de : FormView.Statement (.pop_de) := rfl
theorem FormView.jp_nc_nn (nn : Word) : FormView.Statement (.jp_nc_nn nn) := rfl
theorem FormView.undef_d3 : FormView.Statement (.undef_d3) := rfl
theorem FormView.call_nc_nn (nn : Word) : FormView.Statement (.call_nc_nn nn) := rfl
theorem FormView.push_de : FormView.Statement (.push_de) := rfl
theorem FormView.sub_n (n : Byte) : FormView.Statement (.sub_n n) := rfl
theorem FormView.rst_10 : FormView.Statement (.rst_10) := rfl
theorem FormView.ret_c : FormView.Statement (.ret_c) := rfl
theorem FormView.reti : FormView.Statement (.reti) := rfl
theorem FormView.jp_c_nn (nn : Word) : FormView.Statement (.jp_c_nn nn) := rfl
theorem FormView.undef_db : FormView.Statement (.undef_db) := rfl
theorem FormView.call_c_nn (nn : Word) : FormView.Statement (.call_c_nn nn) := rfl
theorem FormView.undef_dd : FormView.Statement (.undef_dd) := rfl
theorem FormView.sbc_a_n (n : Byte) : FormView.Statement (.sbc_a_n n) := rfl
theorem FormView.rst_18 : FormView.Statement (.rst_18) := rfl
theorem FormView.ldh_at_n_a (n : Byte) : FormView.Statement (.ldh_at_n_a n) := rfl
theorem FormView.pop_hl : FormView.Statement (.pop_hl) := rfl
theorem FormView.ldh_at_c_a : FormView.Statement (.ldh_at_c_a) := rfl
theorem FormView.undef_e3 : FormView.Statement (.undef_e3) := rfl
theorem FormView.undef_e4 : FormView.Statement (.undef_e4) := rfl
theorem FormView.push_hl : FormView.Statement (.push_hl) := rfl
theorem FormView.and_n (n : Byte) : FormView.Statement (.and_n n) := rfl
theorem FormView.rst_20 : FormView.Statement (.rst_20) := rfl
theorem FormView.add_sp_e (e : Byte) : FormView.Statement (.add_sp_e e) := rfl
theorem FormView.jp_hl : FormView.Statement (.jp_hl) := rfl
theorem FormView.ld_at_nn_a (nn : Word) : FormView.Statement (.ld_at_nn_a nn) := rfl
theorem FormView.undef_eb : FormView.Statement (.undef_eb) := rfl
theorem FormView.undef_ec : FormView.Statement (.undef_ec) := rfl
theorem FormView.undef_ed : FormView.Statement (.undef_ed) := rfl
theorem FormView.xor_n (n : Byte) : FormView.Statement (.xor_n n) := rfl
theorem FormView.rst_28 : FormView.Statement (.rst_28) := rfl
theorem FormView.ldh_a_at_n (n : Byte) : FormView.Statement (.ldh_a_at_n n) := rfl
theorem FormView.pop_af : FormView.Statement (.pop_af) := rfl
theorem FormView.ldh_a_at_c : FormView.Statement (.ldh_a_at_c) := rfl
theorem FormView.di : FormView.Statement (.di) := rfl
theorem FormView.undef_f4 : FormView.Statement (.undef_f4) := rfl
theorem FormView.push_af : FormView.Statement (.push_af) := rfl
theorem FormView.or_n (n : Byte) : FormView.Statement (.or_n n) := rfl
theorem FormView.rst_30 : FormView.Statement (.rst_30) := rfl
theorem FormView.ld_hl_sp_e (e : Byte) : FormView.Statement (.ld_hl_sp_e e) := rfl
theorem FormView.ld_sp_hl : FormView.Statement (.ld_sp_hl) := rfl
theorem FormView.ld_a_at_nn (nn : Word) : FormView.Statement (.ld_a_at_nn nn) := rfl
theorem FormView.ei : FormView.Statement (.ei) := rfl
theorem FormView.undef_fc : FormView.Statement (.undef_fc) := rfl
theorem FormView.undef_fd : FormView.Statement (.undef_fd) := rfl
theorem FormView.cp_n (n : Byte) : FormView.Statement (.cp_n n) := rfl
theorem FormView.rst_38 : FormView.Statement (.rst_38) := rfl
theorem FormView.rlc_b : FormView.Statement (.rlc_b) := rfl
theorem FormView.rlc_c : FormView.Statement (.rlc_c) := rfl
theorem FormView.rlc_d : FormView.Statement (.rlc_d) := rfl
theorem FormView.rlc_e : FormView.Statement (.rlc_e) := rfl
theorem FormView.rlc_h : FormView.Statement (.rlc_h) := rfl
theorem FormView.rlc_l : FormView.Statement (.rlc_l) := rfl
theorem FormView.rlc_at_hl : FormView.Statement (.rlc_at_hl) := rfl
theorem FormView.rlc_a : FormView.Statement (.rlc_a) := rfl
theorem FormView.rrc_b : FormView.Statement (.rrc_b) := rfl
theorem FormView.rrc_c : FormView.Statement (.rrc_c) := rfl
theorem FormView.rrc_d : FormView.Statement (.rrc_d) := rfl
theorem FormView.rrc_e : FormView.Statement (.rrc_e) := rfl
theorem FormView.rrc_h : FormView.Statement (.rrc_h) := rfl
theorem FormView.rrc_l : FormView.Statement (.rrc_l) := rfl
theorem FormView.rrc_at_hl : FormView.Statement (.rrc_at_hl) := rfl
theorem FormView.rrc_a : FormView.Statement (.rrc_a) := rfl
theorem FormView.rl_b : FormView.Statement (.rl_b) := rfl
theorem FormView.rl_c : FormView.Statement (.rl_c) := rfl
theorem FormView.rl_d : FormView.Statement (.rl_d) := rfl
theorem FormView.rl_e : FormView.Statement (.rl_e) := rfl
theorem FormView.rl_h : FormView.Statement (.rl_h) := rfl
theorem FormView.rl_l : FormView.Statement (.rl_l) := rfl
theorem FormView.rl_at_hl : FormView.Statement (.rl_at_hl) := rfl
theorem FormView.rl_a : FormView.Statement (.rl_a) := rfl
theorem FormView.rr_b : FormView.Statement (.rr_b) := rfl
theorem FormView.rr_c : FormView.Statement (.rr_c) := rfl
theorem FormView.rr_d : FormView.Statement (.rr_d) := rfl
theorem FormView.rr_e : FormView.Statement (.rr_e) := rfl
theorem FormView.rr_h : FormView.Statement (.rr_h) := rfl
theorem FormView.rr_l : FormView.Statement (.rr_l) := rfl
theorem FormView.rr_at_hl : FormView.Statement (.rr_at_hl) := rfl
theorem FormView.rr_a : FormView.Statement (.rr_a) := rfl
theorem FormView.sla_b : FormView.Statement (.sla_b) := rfl
theorem FormView.sla_c : FormView.Statement (.sla_c) := rfl
theorem FormView.sla_d : FormView.Statement (.sla_d) := rfl
theorem FormView.sla_e : FormView.Statement (.sla_e) := rfl
theorem FormView.sla_h : FormView.Statement (.sla_h) := rfl
theorem FormView.sla_l : FormView.Statement (.sla_l) := rfl
theorem FormView.sla_at_hl : FormView.Statement (.sla_at_hl) := rfl
theorem FormView.sla_a : FormView.Statement (.sla_a) := rfl
theorem FormView.sra_b : FormView.Statement (.sra_b) := rfl
theorem FormView.sra_c : FormView.Statement (.sra_c) := rfl
theorem FormView.sra_d : FormView.Statement (.sra_d) := rfl
theorem FormView.sra_e : FormView.Statement (.sra_e) := rfl
theorem FormView.sra_h : FormView.Statement (.sra_h) := rfl
theorem FormView.sra_l : FormView.Statement (.sra_l) := rfl
theorem FormView.sra_at_hl : FormView.Statement (.sra_at_hl) := rfl
theorem FormView.sra_a : FormView.Statement (.sra_a) := rfl
theorem FormView.swap_b : FormView.Statement (.swap_b) := rfl
theorem FormView.swap_c : FormView.Statement (.swap_c) := rfl
theorem FormView.swap_d : FormView.Statement (.swap_d) := rfl
theorem FormView.swap_e : FormView.Statement (.swap_e) := rfl
theorem FormView.swap_h : FormView.Statement (.swap_h) := rfl
theorem FormView.swap_l : FormView.Statement (.swap_l) := rfl
theorem FormView.swap_at_hl : FormView.Statement (.swap_at_hl) := rfl
theorem FormView.swap_a : FormView.Statement (.swap_a) := rfl
theorem FormView.srl_b : FormView.Statement (.srl_b) := rfl
theorem FormView.srl_c : FormView.Statement (.srl_c) := rfl
theorem FormView.srl_d : FormView.Statement (.srl_d) := rfl
theorem FormView.srl_e : FormView.Statement (.srl_e) := rfl
theorem FormView.srl_h : FormView.Statement (.srl_h) := rfl
theorem FormView.srl_l : FormView.Statement (.srl_l) := rfl
theorem FormView.srl_at_hl : FormView.Statement (.srl_at_hl) := rfl
theorem FormView.srl_a : FormView.Statement (.srl_a) := rfl
theorem FormView.bit_0_b : FormView.Statement (.bit_0_b) := rfl
theorem FormView.bit_0_c : FormView.Statement (.bit_0_c) := rfl
theorem FormView.bit_0_d : FormView.Statement (.bit_0_d) := rfl
theorem FormView.bit_0_e : FormView.Statement (.bit_0_e) := rfl
theorem FormView.bit_0_h : FormView.Statement (.bit_0_h) := rfl
theorem FormView.bit_0_l : FormView.Statement (.bit_0_l) := rfl
theorem FormView.bit_0_at_hl : FormView.Statement (.bit_0_at_hl) := rfl
theorem FormView.bit_0_a : FormView.Statement (.bit_0_a) := rfl
theorem FormView.bit_1_b : FormView.Statement (.bit_1_b) := rfl
theorem FormView.bit_1_c : FormView.Statement (.bit_1_c) := rfl
theorem FormView.bit_1_d : FormView.Statement (.bit_1_d) := rfl
theorem FormView.bit_1_e : FormView.Statement (.bit_1_e) := rfl
theorem FormView.bit_1_h : FormView.Statement (.bit_1_h) := rfl
theorem FormView.bit_1_l : FormView.Statement (.bit_1_l) := rfl
theorem FormView.bit_1_at_hl : FormView.Statement (.bit_1_at_hl) := rfl
theorem FormView.bit_1_a : FormView.Statement (.bit_1_a) := rfl
theorem FormView.bit_2_b : FormView.Statement (.bit_2_b) := rfl
theorem FormView.bit_2_c : FormView.Statement (.bit_2_c) := rfl
theorem FormView.bit_2_d : FormView.Statement (.bit_2_d) := rfl
theorem FormView.bit_2_e : FormView.Statement (.bit_2_e) := rfl
theorem FormView.bit_2_h : FormView.Statement (.bit_2_h) := rfl
theorem FormView.bit_2_l : FormView.Statement (.bit_2_l) := rfl
theorem FormView.bit_2_at_hl : FormView.Statement (.bit_2_at_hl) := rfl
theorem FormView.bit_2_a : FormView.Statement (.bit_2_a) := rfl
theorem FormView.bit_3_b : FormView.Statement (.bit_3_b) := rfl
theorem FormView.bit_3_c : FormView.Statement (.bit_3_c) := rfl
theorem FormView.bit_3_d : FormView.Statement (.bit_3_d) := rfl
theorem FormView.bit_3_e : FormView.Statement (.bit_3_e) := rfl
theorem FormView.bit_3_h : FormView.Statement (.bit_3_h) := rfl
theorem FormView.bit_3_l : FormView.Statement (.bit_3_l) := rfl
theorem FormView.bit_3_at_hl : FormView.Statement (.bit_3_at_hl) := rfl
theorem FormView.bit_3_a : FormView.Statement (.bit_3_a) := rfl
theorem FormView.bit_4_b : FormView.Statement (.bit_4_b) := rfl
theorem FormView.bit_4_c : FormView.Statement (.bit_4_c) := rfl
theorem FormView.bit_4_d : FormView.Statement (.bit_4_d) := rfl
theorem FormView.bit_4_e : FormView.Statement (.bit_4_e) := rfl
theorem FormView.bit_4_h : FormView.Statement (.bit_4_h) := rfl
theorem FormView.bit_4_l : FormView.Statement (.bit_4_l) := rfl
theorem FormView.bit_4_at_hl : FormView.Statement (.bit_4_at_hl) := rfl
theorem FormView.bit_4_a : FormView.Statement (.bit_4_a) := rfl
theorem FormView.bit_5_b : FormView.Statement (.bit_5_b) := rfl
theorem FormView.bit_5_c : FormView.Statement (.bit_5_c) := rfl
theorem FormView.bit_5_d : FormView.Statement (.bit_5_d) := rfl
theorem FormView.bit_5_e : FormView.Statement (.bit_5_e) := rfl
theorem FormView.bit_5_h : FormView.Statement (.bit_5_h) := rfl
theorem FormView.bit_5_l : FormView.Statement (.bit_5_l) := rfl
theorem FormView.bit_5_at_hl : FormView.Statement (.bit_5_at_hl) := rfl
theorem FormView.bit_5_a : FormView.Statement (.bit_5_a) := rfl
theorem FormView.bit_6_b : FormView.Statement (.bit_6_b) := rfl
theorem FormView.bit_6_c : FormView.Statement (.bit_6_c) := rfl
theorem FormView.bit_6_d : FormView.Statement (.bit_6_d) := rfl
theorem FormView.bit_6_e : FormView.Statement (.bit_6_e) := rfl
theorem FormView.bit_6_h : FormView.Statement (.bit_6_h) := rfl
theorem FormView.bit_6_l : FormView.Statement (.bit_6_l) := rfl
theorem FormView.bit_6_at_hl : FormView.Statement (.bit_6_at_hl) := rfl
theorem FormView.bit_6_a : FormView.Statement (.bit_6_a) := rfl
theorem FormView.bit_7_b : FormView.Statement (.bit_7_b) := rfl
theorem FormView.bit_7_c : FormView.Statement (.bit_7_c) := rfl
theorem FormView.bit_7_d : FormView.Statement (.bit_7_d) := rfl
theorem FormView.bit_7_e : FormView.Statement (.bit_7_e) := rfl
theorem FormView.bit_7_h : FormView.Statement (.bit_7_h) := rfl
theorem FormView.bit_7_l : FormView.Statement (.bit_7_l) := rfl
theorem FormView.bit_7_at_hl : FormView.Statement (.bit_7_at_hl) := rfl
theorem FormView.bit_7_a : FormView.Statement (.bit_7_a) := rfl
theorem FormView.res_0_b : FormView.Statement (.res_0_b) := rfl
theorem FormView.res_0_c : FormView.Statement (.res_0_c) := rfl
theorem FormView.res_0_d : FormView.Statement (.res_0_d) := rfl
theorem FormView.res_0_e : FormView.Statement (.res_0_e) := rfl
theorem FormView.res_0_h : FormView.Statement (.res_0_h) := rfl
theorem FormView.res_0_l : FormView.Statement (.res_0_l) := rfl
theorem FormView.res_0_at_hl : FormView.Statement (.res_0_at_hl) := rfl
theorem FormView.res_0_a : FormView.Statement (.res_0_a) := rfl
theorem FormView.res_1_b : FormView.Statement (.res_1_b) := rfl
theorem FormView.res_1_c : FormView.Statement (.res_1_c) := rfl
theorem FormView.res_1_d : FormView.Statement (.res_1_d) := rfl
theorem FormView.res_1_e : FormView.Statement (.res_1_e) := rfl
theorem FormView.res_1_h : FormView.Statement (.res_1_h) := rfl
theorem FormView.res_1_l : FormView.Statement (.res_1_l) := rfl
theorem FormView.res_1_at_hl : FormView.Statement (.res_1_at_hl) := rfl
theorem FormView.res_1_a : FormView.Statement (.res_1_a) := rfl
theorem FormView.res_2_b : FormView.Statement (.res_2_b) := rfl
theorem FormView.res_2_c : FormView.Statement (.res_2_c) := rfl
theorem FormView.res_2_d : FormView.Statement (.res_2_d) := rfl
theorem FormView.res_2_e : FormView.Statement (.res_2_e) := rfl
theorem FormView.res_2_h : FormView.Statement (.res_2_h) := rfl
theorem FormView.res_2_l : FormView.Statement (.res_2_l) := rfl
theorem FormView.res_2_at_hl : FormView.Statement (.res_2_at_hl) := rfl
theorem FormView.res_2_a : FormView.Statement (.res_2_a) := rfl
theorem FormView.res_3_b : FormView.Statement (.res_3_b) := rfl
theorem FormView.res_3_c : FormView.Statement (.res_3_c) := rfl
theorem FormView.res_3_d : FormView.Statement (.res_3_d) := rfl
theorem FormView.res_3_e : FormView.Statement (.res_3_e) := rfl
theorem FormView.res_3_h : FormView.Statement (.res_3_h) := rfl
theorem FormView.res_3_l : FormView.Statement (.res_3_l) := rfl
theorem FormView.res_3_at_hl : FormView.Statement (.res_3_at_hl) := rfl
theorem FormView.res_3_a : FormView.Statement (.res_3_a) := rfl
theorem FormView.res_4_b : FormView.Statement (.res_4_b) := rfl
theorem FormView.res_4_c : FormView.Statement (.res_4_c) := rfl
theorem FormView.res_4_d : FormView.Statement (.res_4_d) := rfl
theorem FormView.res_4_e : FormView.Statement (.res_4_e) := rfl
theorem FormView.res_4_h : FormView.Statement (.res_4_h) := rfl
theorem FormView.res_4_l : FormView.Statement (.res_4_l) := rfl
theorem FormView.res_4_at_hl : FormView.Statement (.res_4_at_hl) := rfl
theorem FormView.res_4_a : FormView.Statement (.res_4_a) := rfl
theorem FormView.res_5_b : FormView.Statement (.res_5_b) := rfl
theorem FormView.res_5_c : FormView.Statement (.res_5_c) := rfl
theorem FormView.res_5_d : FormView.Statement (.res_5_d) := rfl
theorem FormView.res_5_e : FormView.Statement (.res_5_e) := rfl
theorem FormView.res_5_h : FormView.Statement (.res_5_h) := rfl
theorem FormView.res_5_l : FormView.Statement (.res_5_l) := rfl
theorem FormView.res_5_at_hl : FormView.Statement (.res_5_at_hl) := rfl
theorem FormView.res_5_a : FormView.Statement (.res_5_a) := rfl
theorem FormView.res_6_b : FormView.Statement (.res_6_b) := rfl
theorem FormView.res_6_c : FormView.Statement (.res_6_c) := rfl
theorem FormView.res_6_d : FormView.Statement (.res_6_d) := rfl
theorem FormView.res_6_e : FormView.Statement (.res_6_e) := rfl
theorem FormView.res_6_h : FormView.Statement (.res_6_h) := rfl
theorem FormView.res_6_l : FormView.Statement (.res_6_l) := rfl
theorem FormView.res_6_at_hl : FormView.Statement (.res_6_at_hl) := rfl
theorem FormView.res_6_a : FormView.Statement (.res_6_a) := rfl
theorem FormView.res_7_b : FormView.Statement (.res_7_b) := rfl
theorem FormView.res_7_c : FormView.Statement (.res_7_c) := rfl
theorem FormView.res_7_d : FormView.Statement (.res_7_d) := rfl
theorem FormView.res_7_e : FormView.Statement (.res_7_e) := rfl
theorem FormView.res_7_h : FormView.Statement (.res_7_h) := rfl
theorem FormView.res_7_l : FormView.Statement (.res_7_l) := rfl
theorem FormView.res_7_at_hl : FormView.Statement (.res_7_at_hl) := rfl
theorem FormView.res_7_a : FormView.Statement (.res_7_a) := rfl
theorem FormView.set_0_b : FormView.Statement (.set_0_b) := rfl
theorem FormView.set_0_c : FormView.Statement (.set_0_c) := rfl
theorem FormView.set_0_d : FormView.Statement (.set_0_d) := rfl
theorem FormView.set_0_e : FormView.Statement (.set_0_e) := rfl
theorem FormView.set_0_h : FormView.Statement (.set_0_h) := rfl
theorem FormView.set_0_l : FormView.Statement (.set_0_l) := rfl
theorem FormView.set_0_at_hl : FormView.Statement (.set_0_at_hl) := rfl
theorem FormView.set_0_a : FormView.Statement (.set_0_a) := rfl
theorem FormView.set_1_b : FormView.Statement (.set_1_b) := rfl
theorem FormView.set_1_c : FormView.Statement (.set_1_c) := rfl
theorem FormView.set_1_d : FormView.Statement (.set_1_d) := rfl
theorem FormView.set_1_e : FormView.Statement (.set_1_e) := rfl
theorem FormView.set_1_h : FormView.Statement (.set_1_h) := rfl
theorem FormView.set_1_l : FormView.Statement (.set_1_l) := rfl
theorem FormView.set_1_at_hl : FormView.Statement (.set_1_at_hl) := rfl
theorem FormView.set_1_a : FormView.Statement (.set_1_a) := rfl
theorem FormView.set_2_b : FormView.Statement (.set_2_b) := rfl
theorem FormView.set_2_c : FormView.Statement (.set_2_c) := rfl
theorem FormView.set_2_d : FormView.Statement (.set_2_d) := rfl
theorem FormView.set_2_e : FormView.Statement (.set_2_e) := rfl
theorem FormView.set_2_h : FormView.Statement (.set_2_h) := rfl
theorem FormView.set_2_l : FormView.Statement (.set_2_l) := rfl
theorem FormView.set_2_at_hl : FormView.Statement (.set_2_at_hl) := rfl
theorem FormView.set_2_a : FormView.Statement (.set_2_a) := rfl
theorem FormView.set_3_b : FormView.Statement (.set_3_b) := rfl
theorem FormView.set_3_c : FormView.Statement (.set_3_c) := rfl
theorem FormView.set_3_d : FormView.Statement (.set_3_d) := rfl
theorem FormView.set_3_e : FormView.Statement (.set_3_e) := rfl
theorem FormView.set_3_h : FormView.Statement (.set_3_h) := rfl
theorem FormView.set_3_l : FormView.Statement (.set_3_l) := rfl
theorem FormView.set_3_at_hl : FormView.Statement (.set_3_at_hl) := rfl
theorem FormView.set_3_a : FormView.Statement (.set_3_a) := rfl
theorem FormView.set_4_b : FormView.Statement (.set_4_b) := rfl
theorem FormView.set_4_c : FormView.Statement (.set_4_c) := rfl
theorem FormView.set_4_d : FormView.Statement (.set_4_d) := rfl
theorem FormView.set_4_e : FormView.Statement (.set_4_e) := rfl
theorem FormView.set_4_h : FormView.Statement (.set_4_h) := rfl
theorem FormView.set_4_l : FormView.Statement (.set_4_l) := rfl
theorem FormView.set_4_at_hl : FormView.Statement (.set_4_at_hl) := rfl
theorem FormView.set_4_a : FormView.Statement (.set_4_a) := rfl
theorem FormView.set_5_b : FormView.Statement (.set_5_b) := rfl
theorem FormView.set_5_c : FormView.Statement (.set_5_c) := rfl
theorem FormView.set_5_d : FormView.Statement (.set_5_d) := rfl
theorem FormView.set_5_e : FormView.Statement (.set_5_e) := rfl
theorem FormView.set_5_h : FormView.Statement (.set_5_h) := rfl
theorem FormView.set_5_l : FormView.Statement (.set_5_l) := rfl
theorem FormView.set_5_at_hl : FormView.Statement (.set_5_at_hl) := rfl
theorem FormView.set_5_a : FormView.Statement (.set_5_a) := rfl
theorem FormView.set_6_b : FormView.Statement (.set_6_b) := rfl
theorem FormView.set_6_c : FormView.Statement (.set_6_c) := rfl
theorem FormView.set_6_d : FormView.Statement (.set_6_d) := rfl
theorem FormView.set_6_e : FormView.Statement (.set_6_e) := rfl
theorem FormView.set_6_h : FormView.Statement (.set_6_h) := rfl
theorem FormView.set_6_l : FormView.Statement (.set_6_l) := rfl
theorem FormView.set_6_at_hl : FormView.Statement (.set_6_at_hl) := rfl
theorem FormView.set_6_a : FormView.Statement (.set_6_a) := rfl
theorem FormView.set_7_b : FormView.Statement (.set_7_b) := rfl
theorem FormView.set_7_c : FormView.Statement (.set_7_c) := rfl
theorem FormView.set_7_d : FormView.Statement (.set_7_d) := rfl
theorem FormView.set_7_e : FormView.Statement (.set_7_e) := rfl
theorem FormView.set_7_h : FormView.Statement (.set_7_h) := rfl
theorem FormView.set_7_l : FormView.Statement (.set_7_l) := rfl
theorem FormView.set_7_at_hl : FormView.Statement (.set_7_at_hl) := rfl
theorem FormView.set_7_a : FormView.Statement (.set_7_a) := rfl

/-- The table that `i` belongs to has `i` at its opcode byte, for some operand bytes. -/
def OwnEntry.Statement (i : Instr) : Prop :=
  ∃ n nn, tableEntry i.isExtended i.form.opcode n nn = i

theorem OwnEntry.nop : OwnEntry.Statement (.nop) :=
  ⟨0, 0, (by with_unfolding_all rfl : tableEntry false 0x00 0 0 = .nop)⟩
theorem OwnEntry.ld_bc_nn (nn : Word) : OwnEntry.Statement (.ld_bc_nn nn) :=
  ⟨0, nn, (by with_unfolding_all rfl : tableEntry false 0x01 0 nn = .ld_bc_nn nn)⟩
theorem OwnEntry.ld_at_bc_a : OwnEntry.Statement (.ld_at_bc_a) :=
  ⟨0, 0, (by with_unfolding_all rfl : tableEntry false 0x02 0 0 = .ld_at_bc_a)⟩
theorem OwnEntry.inc_bc : OwnEntry.Statement (.inc_bc) :=
  ⟨0, 0, (by with_unfolding_all rfl : tableEntry false 0x03 0 0 = .inc_bc)⟩
theorem OwnEntry.inc_b : OwnEntry.Statement (.inc_b) :=
  ⟨0, 0, (by with_unfolding_all rfl : tableEntry false 0x04 0 0 = .inc_b)⟩
theorem OwnEntry.dec_b : OwnEntry.Statement (.dec_b) :=
  ⟨0, 0, (by with_unfolding_all rfl : tableEntry false 0x05 0 0 = .dec_b)⟩
theorem OwnEntry.ld_b_n (n : Byte) : OwnEntry.Statement (.ld_b_n n) :=
  ⟨n, 0, (by with_unfolding_all rfl : tableEntry false 0x06 n 0 = .ld_b_n n)⟩
theorem OwnEntry.rlca : OwnEntry.Statement (.rlca) :=
  ⟨0, 0, (by with_unfolding_all rfl : tableEntry false 0x07 0 0 = .rlca)⟩
theorem OwnEntry.ld_at_nn_sp (nn : Word) : OwnEntry.Statement (.ld_at_nn_sp nn) :=
  ⟨0, nn, (by with_unfolding_all rfl : tableEntry false 0x08 0 nn = .ld_at_nn_sp nn)⟩
theorem OwnEntry.add_hl_bc : OwnEntry.Statement (.add_hl_bc) :=
  ⟨0, 0, (by with_unfolding_all rfl : tableEntry false 0x09 0 0 = .add_hl_bc)⟩
theorem OwnEntry.ld_a_at_bc : OwnEntry.Statement (.ld_a_at_bc) :=
  ⟨0, 0, (by with_unfolding_all rfl : tableEntry false 0x0A 0 0 = .ld_a_at_bc)⟩
theorem OwnEntry.dec_bc : OwnEntry.Statement (.dec_bc) :=
  ⟨0, 0, (by with_unfolding_all rfl : tableEntry false 0x0B 0 0 = .dec_bc)⟩
theorem OwnEntry.inc_c : OwnEntry.Statement (.inc_c) :=
  ⟨0, 0, (by with_unfolding_all rfl : tableEntry false 0x0C 0 0 = .inc_c)⟩
theorem OwnEntry.dec_c : OwnEntry.Statement (.dec_c) :=
  ⟨0, 0, (by with_unfolding_all rfl : tableEntry false 0x0D 0 0 = .dec_c)⟩
theorem OwnEntry.ld_c_n (n : Byte) : OwnEntry.Statement (.ld_c_n n) :=
  ⟨n, 0, (by with_unfolding_all rfl : tableEntry false 0x0E n 0 = .ld_c_n n)⟩
theorem OwnEntry.rrca : OwnEntry.Statement (.rrca) :=
  ⟨0, 0, (by with_unfolding_all rfl : tableEntry false 0x0F 0 0 = .rrca)⟩
theorem OwnEntry.stop (n : Byte) : OwnEntry.Statement (.stop n) :=
  ⟨n, 0, (by with_unfolding_all rfl : tableEntry false 0x10 n 0 = .stop n)⟩
theorem OwnEntry.ld_de_nn (nn : Word) : OwnEntry.Statement (.ld_de_nn nn) :=
  ⟨0, nn, (by with_unfolding_all rfl : tableEntry false 0x11 0 nn = .ld_de_nn nn)⟩
theorem OwnEntry.ld_at_de_a : OwnEntry.Statement (.ld_at_de_a) :=
  ⟨0, 0, (by with_unfolding_all rfl : tableEntry false 0x12 0 0 = .ld_at_de_a)⟩
theorem OwnEntry.inc_de : OwnEntry.Statement (.inc_de) :=
  ⟨0, 0, (by with_unfolding_all rfl : tableEntry false 0x13 0 0 = .inc_de)⟩
theorem OwnEntry.inc_d : OwnEntry.Statement (.inc_d) :=
  ⟨0, 0, (by with_unfolding_all rfl : tableEntry false 0x14 0 0 = .inc_d)⟩
theorem OwnEntry.dec_d : OwnEntry.Statement (.dec_d) :=
  ⟨0, 0, (by with_unfolding_all rfl : tableEntry false 0x15 0 0 = .dec_d)⟩
theorem OwnEntry.ld_d_n (n : Byte) : OwnEntry.Statement (.ld_d_n n) :=
  ⟨n, 0, (by with_unfolding_all rfl : tableEntry false 0x16 n 0 = .ld_d_n n)⟩
theorem OwnEntry.rla : OwnEntry.Statement (.rla) :=
  ⟨0, 0, (by with_unfolding_all rfl : tableEntry false 0x17 0 0 = .rla)⟩
theorem OwnEntry.jr_e (e : Byte) : OwnEntry.Statement (.jr_e e) :=
  ⟨e, 0, (by with_unfolding_all rfl : tableEntry false 0x18 e 0 = .jr_e e)⟩
theorem OwnEntry.add_hl_de : OwnEntry.Statement (.add_hl_de) :=
  ⟨0, 0, (by with_unfolding_all rfl : tableEntry false 0x19 0 0 = .add_hl_de)⟩
theorem OwnEntry.ld_a_at_de : OwnEntry.Statement (.ld_a_at_de) :=
  ⟨0, 0, (by with_unfolding_all rfl : tableEntry false 0x1A 0 0 = .ld_a_at_de)⟩
theorem OwnEntry.dec_de : OwnEntry.Statement (.dec_de) :=
  ⟨0, 0, (by with_unfolding_all rfl : tableEntry false 0x1B 0 0 = .dec_de)⟩
theorem OwnEntry.inc_e : OwnEntry.Statement (.inc_e) :=
  ⟨0, 0, (by with_unfolding_all rfl : tableEntry false 0x1C 0 0 = .inc_e)⟩
theorem OwnEntry.dec_e : OwnEntry.Statement (.dec_e) :=
  ⟨0, 0, (by with_unfolding_all rfl : tableEntry false 0x1D 0 0 = .dec_e)⟩
theorem OwnEntry.ld_e_n (n : Byte) : OwnEntry.Statement (.ld_e_n n) :=
  ⟨n, 0, (by with_unfolding_all rfl : tableEntry false 0x1E n 0 = .ld_e_n n)⟩
theorem OwnEntry.rra : OwnEntry.Statement (.rra) :=
  ⟨0, 0, (by with_unfolding_all rfl : tableEntry false 0x1F 0 0 = .rra)⟩
theorem OwnEntry.jr_nz_e (e : Byte) : OwnEntry.Statement (.jr_nz_e e) :=
  ⟨e, 0, (by with_unfolding_all rfl : tableEntry false 0x20 e 0 = .jr_nz_e e)⟩
theorem OwnEntry.ld_hl_nn (nn : Word) : OwnEntry.Statement (.ld_hl_nn nn) :=
  ⟨0, nn, (by with_unfolding_all rfl : tableEntry false 0x21 0 nn = .ld_hl_nn nn)⟩
theorem OwnEntry.ld_at_hli_a : OwnEntry.Statement (.ld_at_hli_a) :=
  ⟨0, 0, (by with_unfolding_all rfl : tableEntry false 0x22 0 0 = .ld_at_hli_a)⟩
theorem OwnEntry.inc_hl : OwnEntry.Statement (.inc_hl) :=
  ⟨0, 0, (by with_unfolding_all rfl : tableEntry false 0x23 0 0 = .inc_hl)⟩
theorem OwnEntry.inc_h : OwnEntry.Statement (.inc_h) :=
  ⟨0, 0, (by with_unfolding_all rfl : tableEntry false 0x24 0 0 = .inc_h)⟩
theorem OwnEntry.dec_h : OwnEntry.Statement (.dec_h) :=
  ⟨0, 0, (by with_unfolding_all rfl : tableEntry false 0x25 0 0 = .dec_h)⟩
theorem OwnEntry.ld_h_n (n : Byte) : OwnEntry.Statement (.ld_h_n n) :=
  ⟨n, 0, (by with_unfolding_all rfl : tableEntry false 0x26 n 0 = .ld_h_n n)⟩
theorem OwnEntry.daa : OwnEntry.Statement (.daa) :=
  ⟨0, 0, (by with_unfolding_all rfl : tableEntry false 0x27 0 0 = .daa)⟩
theorem OwnEntry.jr_z_e (e : Byte) : OwnEntry.Statement (.jr_z_e e) :=
  ⟨e, 0, (by with_unfolding_all rfl : tableEntry false 0x28 e 0 = .jr_z_e e)⟩
theorem OwnEntry.add_hl_hl : OwnEntry.Statement (.add_hl_hl) :=
  ⟨0, 0, (by with_unfolding_all rfl : tableEntry false 0x29 0 0 = .add_hl_hl)⟩
theorem OwnEntry.ld_a_at_hli : OwnEntry.Statement (.ld_a_at_hli) :=
  ⟨0, 0, (by with_unfolding_all rfl : tableEntry false 0x2A 0 0 = .ld_a_at_hli)⟩
theorem OwnEntry.dec_hl : OwnEntry.Statement (.dec_hl) :=
  ⟨0, 0, (by with_unfolding_all rfl : tableEntry false 0x2B 0 0 = .dec_hl)⟩
theorem OwnEntry.inc_l : OwnEntry.Statement (.inc_l) :=
  ⟨0, 0, (by with_unfolding_all rfl : tableEntry false 0x2C 0 0 = .inc_l)⟩
theorem OwnEntry.dec_l : OwnEntry.Statement (.dec_l) :=
  ⟨0, 0, (by with_unfolding_all rfl : tableEntry false 0x2D 0 0 = .dec_l)⟩
theorem OwnEntry.ld_l_n (n : Byte) : OwnEntry.Statement (.ld_l_n n) :=
  ⟨n, 0, (by with_unfolding_all rfl : tableEntry false 0x2E n 0 = .ld_l_n n)⟩
theorem OwnEntry.cpl : OwnEntry.Statement (.cpl) :=
  ⟨0, 0, (by with_unfolding_all rfl : tableEntry false 0x2F 0 0 = .cpl)⟩
theorem OwnEntry.jr_nc_e (e : Byte) : OwnEntry.Statement (.jr_nc_e e) :=
  ⟨e, 0, (by with_unfolding_all rfl : tableEntry false 0x30 e 0 = .jr_nc_e e)⟩
theorem OwnEntry.ld_sp_nn (nn : Word) : OwnEntry.Statement (.ld_sp_nn nn) :=
  ⟨0, nn, (by with_unfolding_all rfl : tableEntry false 0x31 0 nn = .ld_sp_nn nn)⟩
theorem OwnEntry.ld_at_hld_a : OwnEntry.Statement (.ld_at_hld_a) :=
  ⟨0, 0, (by with_unfolding_all rfl : tableEntry false 0x32 0 0 = .ld_at_hld_a)⟩
theorem OwnEntry.inc_sp : OwnEntry.Statement (.inc_sp) :=
  ⟨0, 0, (by with_unfolding_all rfl : tableEntry false 0x33 0 0 = .inc_sp)⟩
theorem OwnEntry.inc_at_hl : OwnEntry.Statement (.inc_at_hl) :=
  ⟨0, 0, (by with_unfolding_all rfl : tableEntry false 0x34 0 0 = .inc_at_hl)⟩
theorem OwnEntry.dec_at_hl : OwnEntry.Statement (.dec_at_hl) :=
  ⟨0, 0, (by with_unfolding_all rfl : tableEntry false 0x35 0 0 = .dec_at_hl)⟩
theorem OwnEntry.ld_at_hl_n (n : Byte) : OwnEntry.Statement (.ld_at_hl_n n) :=
  ⟨n, 0, (by with_unfolding_all rfl : tableEntry false 0x36 n 0 = .ld_at_hl_n n)⟩
theorem OwnEntry.scf : OwnEntry.Statement (.scf) :=
  ⟨0, 0, (by with_unfolding_all rfl : tableEntry false 0x37 0 0 = .scf)⟩
theorem OwnEntry.jr_c_e (e : Byte) : OwnEntry.Statement (.jr_c_e e) :=
  ⟨e, 0, (by with_unfolding_all rfl : tableEntry false 0x38 e 0 = .jr_c_e e)⟩
theorem OwnEntry.add_hl_sp : OwnEntry.Statement (.add_hl_sp) :=
  ⟨0, 0, (by with_unfolding_all rfl : tableEntry false 0x39 0 0 = .add_hl_sp)⟩
theorem OwnEntry.ld_a_at_hld : OwnEntry.Statement (.ld_a_at_hld) :=
  ⟨0, 0, (by with_unfolding_all rfl : tableEntry false 0x3A 0 0 = .ld_a_at_hld)⟩
theorem OwnEntry.dec_sp : OwnEntry.Statement (.dec_sp) :=
  ⟨0, 0, (by with_unfolding_all rfl : tableEntry false 0x3B 0 0 = .dec_sp)⟩
theorem OwnEntry.inc_a : OwnEntry.Statement (.inc_a) :=
  ⟨0, 0, (by with_unfolding_all rfl : tableEntry false 0x3C 0 0 = .inc_a)⟩
theorem OwnEntry.dec_a : OwnEntry.Statement (.dec_a) :=
  ⟨0, 0, (by with_unfolding_all rfl : tableEntry false 0x3D 0 0 = .dec_a)⟩
theorem OwnEntry.ld_a_n (n : Byte) : OwnEntry.Statement (.ld_a_n n) :=
  ⟨n, 0, (by with_unfolding_all rfl : tableEntry false 0x3E n 0 = .ld_a_n n)⟩
theorem OwnEntry.ccf : OwnEntry.Statement (.ccf) :=
  ⟨0, 0, (by with_unfolding_all rfl : tableEntry false 0x3F 0 0 = .ccf)⟩
theorem OwnEntry.ld_b_b : OwnEntry.Statement (.ld_b_b) :=
  ⟨0, 0, (by with_unfolding_all rfl : tableEntry false 0x40 0 0 = .ld_b_b)⟩
theorem OwnEntry.ld_b_c : OwnEntry.Statement (.ld_b_c) :=
  ⟨0, 0, (by with_unfolding_all rfl : tableEntry false 0x41 0 0 = .ld_b_c)⟩
theorem OwnEntry.ld_b_d : OwnEntry.Statement (.ld_b_d) :=
  ⟨0, 0, (by with_unfolding_all rfl : tableEntry false 0x42 0 0 = .ld_b_d)⟩
theorem OwnEntry.ld_b_e : OwnEntry.Statement (.ld_b_e) :=
  ⟨0, 0, (by with_unfolding_all rfl : tableEntry false 0x43 0 0 = .ld_b_e)⟩
theorem OwnEntry.ld_b_h : OwnEntry.Statement (.ld_b_h) :=
  ⟨0, 0, (by with_unfolding_all rfl : tableEntry false 0x44 0 0 = .ld_b_h)⟩
theorem OwnEntry.ld_b_l : OwnEntry.Statement (.ld_b_l) :=
  ⟨0, 0, (by with_unfolding_all rfl : tableEntry false 0x45 0 0 = .ld_b_l)⟩
theorem OwnEntry.ld_b_at_hl : OwnEntry.Statement (.ld_b_at_hl) :=
  ⟨0, 0, (by with_unfolding_all rfl : tableEntry false 0x46 0 0 = .ld_b_at_hl)⟩
theorem OwnEntry.ld_b_a : OwnEntry.Statement (.ld_b_a) :=
  ⟨0, 0, (by with_unfolding_all rfl : tableEntry false 0x47 0 0 = .ld_b_a)⟩
theorem OwnEntry.ld_c_b : OwnEntry.Statement (.ld_c_b) :=
  ⟨0, 0, (by with_unfolding_all rfl : tableEntry false 0x48 0 0 = .ld_c_b)⟩
theorem OwnEntry.ld_c_c : OwnEntry.Statement (.ld_c_c) :=
  ⟨0, 0, (by with_unfolding_all rfl : tableEntry false 0x49 0 0 = .ld_c_c)⟩
theorem OwnEntry.ld_c_d : OwnEntry.Statement (.ld_c_d) :=
  ⟨0, 0, (by with_unfolding_all rfl : tableEntry false 0x4A 0 0 = .ld_c_d)⟩
theorem OwnEntry.ld_c_e : OwnEntry.Statement (.ld_c_e) :=
  ⟨0, 0, (by with_unfolding_all rfl : tableEntry false 0x4B 0 0 = .ld_c_e)⟩
theorem OwnEntry.ld_c_h : OwnEntry.Statement (.ld_c_h) :=
  ⟨0, 0, (by with_unfolding_all rfl : tableEntry false 0x4C 0 0 = .ld_c_h)⟩
theorem OwnEntry.ld_c_l : OwnEntry.Statement (.ld_c_l) :=
  ⟨0, 0, (by with_unfolding_all rfl : tableEntry false 0x4D 0 0 = .ld_c_l)⟩
theorem OwnEntry.ld_c_at_hl : OwnEntry.Statement (.ld_c_at_hl) :=
  ⟨0, 0, (by with_unfolding_all rfl : tableEntry false 0x4E 0 0 = .ld_c_at_hl)⟩
theorem OwnEntry.ld_c_a : OwnEntry.Statement (.ld_c_a) :=
  ⟨0, 0, (by with_unfolding_all rfl : tableEntry false 0x4F 0 0 = .ld_c_a)⟩
theorem OwnEntry.ld_d_b : OwnEntry.Statement (.ld_d_b) :=
  ⟨0, 0, (by with_unfolding_all rfl : tableEntry false 0x50 0 0 = .ld_d_b)⟩
theorem OwnEntry.ld_d_c : OwnEntry.Statement (.ld_d_c) :=
  ⟨0, 0, (by with_unfolding_all rfl : tableEntry false 0x51 0 0 = .ld_d_c)⟩
theorem OwnEntry.ld_d_d : OwnEntry.Statement (.ld_d_d) :=
  ⟨0, 0, (by with_unfolding_all rfl : tableEntry false 0x52 0 0 = .ld_d_d)⟩
theorem OwnEntry.ld_d_e : OwnEntry.Statement (.ld_d_e) :=
  ⟨0, 0, (by with_unfolding_all rfl : tableEntry false 0x53 0 0 = .ld_d_e)⟩
theorem OwnEntry.ld_d_h : OwnEntry.Statement (.ld_d_h) :=
  ⟨0, 0, (by with_unfolding_all rfl : tableEntry false 0x54 0 0 = .ld_d_h)⟩
theorem OwnEntry.ld_d_l : OwnEntry.Statement (.ld_d_l) :=
  ⟨0, 0, (by with_unfolding_all rfl : tableEntry false 0x55 0 0 = .ld_d_l)⟩
theorem OwnEntry.ld_d_at_hl : OwnEntry.Statement (.ld_d_at_hl) :=
  ⟨0, 0, (by with_unfolding_all rfl : tableEntry false 0x56 0 0 = .ld_d_at_hl)⟩
theorem OwnEntry.ld_d_a : OwnEntry.Statement (.ld_d_a) :=
  ⟨0, 0, (by with_unfolding_all rfl : tableEntry false 0x57 0 0 = .ld_d_a)⟩
theorem OwnEntry.ld_e_b : OwnEntry.Statement (.ld_e_b) :=
  ⟨0, 0, (by with_unfolding_all rfl : tableEntry false 0x58 0 0 = .ld_e_b)⟩
theorem OwnEntry.ld_e_c : OwnEntry.Statement (.ld_e_c) :=
  ⟨0, 0, (by with_unfolding_all rfl : tableEntry false 0x59 0 0 = .ld_e_c)⟩
theorem OwnEntry.ld_e_d : OwnEntry.Statement (.ld_e_d) :=
  ⟨0, 0, (by with_unfolding_all rfl : tableEntry false 0x5A 0 0 = .ld_e_d)⟩
theorem OwnEntry.ld_e_e : OwnEntry.Statement (.ld_e_e) :=
  ⟨0, 0, (by with_unfolding_all rfl : tableEntry false 0x5B 0 0 = .ld_e_e)⟩
theorem OwnEntry.ld_e_h : OwnEntry.Statement (.ld_e_h) :=
  ⟨0, 0, (by with_unfolding_all rfl : tableEntry false 0x5C 0 0 = .ld_e_h)⟩
theorem OwnEntry.ld_e_l : OwnEntry.Statement (.ld_e_l) :=
  ⟨0, 0, (by with_unfolding_all rfl : tableEntry false 0x5D 0 0 = .ld_e_l)⟩
theorem OwnEntry.ld_e_at_hl : OwnEntry.Statement (.ld_e_at_hl) :=
  ⟨0, 0, (by with_unfolding_all rfl : tableEntry false 0x5E 0 0 = .ld_e_at_hl)⟩
theorem OwnEntry.ld_e_a : OwnEntry.Statement (.ld_e_a) :=
  ⟨0, 0, (by with_unfolding_all rfl : tableEntry false 0x5F 0 0 = .ld_e_a)⟩
theorem OwnEntry.ld_h_b : OwnEntry.Statement (.ld_h_b) :=
  ⟨0, 0, (by with_unfolding_all rfl : tableEntry false 0x60 0 0 = .ld_h_b)⟩
theorem OwnEntry.ld_h_c : OwnEntry.Statement (.ld_h_c) :=
  ⟨0, 0, (by with_unfolding_all rfl : tableEntry false 0x61 0 0 = .ld_h_c)⟩
theorem OwnEntry.ld_h_d : OwnEntry.Statement (.ld_h_d) :=
  ⟨0, 0, (by with_unfolding_all rfl : tableEntry false 0x62 0 0 = .ld_h_d)⟩
theorem OwnEntry.ld_h_e : OwnEntry.Statement (.ld_h_e) :=
  ⟨0, 0, (by with_unfolding_all rfl : tableEntry false 0x63 0 0 = .ld_h_e)⟩
theorem OwnEntry.ld_h_h : OwnEntry.Statement (.ld_h_h) :=
  ⟨0, 0, (by with_unfolding_all rfl : tableEntry false 0x64 0 0 = .ld_h_h)⟩
theorem OwnEntry.ld_h_l : OwnEntry.Statement (.ld_h_l) :=
  ⟨0, 0, (by with_unfolding_all rfl : tableEntry false 0x65 0 0 = .ld_h_l)⟩
theorem OwnEntry.ld_h_at_hl : OwnEntry.Statement (.ld_h_at_hl) :=
  ⟨0, 0, (by with_unfolding_all rfl : tableEntry false 0x66 0 0 = .ld_h_at_hl)⟩
theorem OwnEntry.ld_h_a : OwnEntry.Statement (.ld_h_a) :=
  ⟨0, 0, (by with_unfolding_all rfl : tableEntry false 0x67 0 0 = .ld_h_a)⟩
theorem OwnEntry.ld_l_b : OwnEntry.Statement (.ld_l_b) :=
  ⟨0, 0, (by with_unfolding_all rfl : tableEntry false 0x68 0 0 = .ld_l_b)⟩
theorem OwnEntry.ld_l_c : OwnEntry.Statement (.ld_l_c) :=
  ⟨0, 0, (by with_unfolding_all rfl : tableEntry false 0x69 0 0 = .ld_l_c)⟩
theorem OwnEntry.ld_l_d : OwnEntry.Statement (.ld_l_d) :=
  ⟨0, 0, (by with_unfolding_all rfl : tableEntry false 0x6A 0 0 = .ld_l_d)⟩
theorem OwnEntry.ld_l_e : OwnEntry.Statement (.ld_l_e) :=
  ⟨0, 0, (by with_unfolding_all rfl : tableEntry false 0x6B 0 0 = .ld_l_e)⟩
theorem OwnEntry.ld_l_h : OwnEntry.Statement (.ld_l_h) :=
  ⟨0, 0, (by with_unfolding_all rfl : tableEntry false 0x6C 0 0 = .ld_l_h)⟩
theorem OwnEntry.ld_l_l : OwnEntry.Statement (.ld_l_l) :=
  ⟨0, 0, (by with_unfolding_all rfl : tableEntry false 0x6D 0 0 = .ld_l_l)⟩
theorem OwnEntry.ld_l_at_hl : OwnEntry.Statement (.ld_l_at_hl) :=
  ⟨0, 0, (by with_unfolding_all rfl : tableEntry false 0x6E 0 0 = .ld_l_at_hl)⟩
theorem OwnEntry.ld_l_a : OwnEntry.Statement (.ld_l_a) :=
  ⟨0, 0, (by with_unfolding_all rfl : tableEntry false 0x6F 0 0 = .ld_l_a)⟩
theorem OwnEntry.ld_at_hl_b : OwnEntry.Statement (.ld_at_hl_b) :=
  ⟨0, 0, (by with_unfolding_all rfl : tableEntry false 0x70 0 0 = .ld_at_hl_b)⟩
theorem OwnEntry.ld_at_hl_c : OwnEntry.Statement (.ld_at_hl_c) :=
  ⟨0, 0, (by with_unfolding_all rfl : tableEntry false 0x71 0 0 = .ld_at_hl_c)⟩
theorem OwnEntry.ld_at_hl_d : OwnEntry.Statement (.ld_at_hl_d) :=
  ⟨0, 0, (by with_unfolding_all rfl : tableEntry false 0x72 0 0 = .ld_at_hl_d)⟩
theorem OwnEntry.ld_at_hl_e : OwnEntry.Statement (.ld_at_hl_e) :=
  ⟨0, 0, (by with_unfolding_all rfl : tableEntry false 0x73 0 0 = .ld_at_hl_e)⟩
theorem OwnEntry.ld_at_hl_h : OwnEntry.Statement (.ld_at_hl_h) :=
  ⟨0, 0, (by with_unfolding_all rfl : tableEntry false 0x74 0 0 = .ld_at_hl_h)⟩
theorem OwnEntry.ld_at_hl_l : OwnEntry.Statement (.ld_at_hl_l) :=
  ⟨0, 0, (by with_unfolding_all rfl : tableEntry false 0x75 0 0 = .ld_at_hl_l)⟩
theorem OwnEntry.halt : OwnEntry.Statement (.halt) :=
  ⟨0, 0, (by with_unfolding_all rfl : tableEntry false 0x76 0 0 = .halt)⟩
theorem OwnEntry.ld_at_hl_a : OwnEntry.Statement (.ld_at_hl_a) :=
  ⟨0, 0, (by with_unfolding_all rfl : tableEntry false 0x77 0 0 = .ld_at_hl_a)⟩
theorem OwnEntry.ld_a_b : OwnEntry.Statement (.ld_a_b) :=
  ⟨0, 0, (by with_unfolding_all rfl : tableEntry false 0x78 0 0 = .ld_a_b)⟩
theorem OwnEntry.ld_a_c : OwnEntry.Statement (.ld_a_c) :=
  ⟨0, 0, (by with_unfolding_all rfl : tableEntry false 0x79 0 0 = .ld_a_c)⟩
theorem OwnEntry.ld_a_d : OwnEntry.Statement (.ld_a_d) :=
  ⟨0, 0, (by with_unfolding_all rfl : tableEntry false 0x7A 0 0 = .ld_a_d)⟩
theorem OwnEntry.ld_a_e : OwnEntry.Statement (.ld_a_e) :=
  ⟨0, 0, (by with_unfolding_all rfl : tableEntry false 0x7B 0 0 = .ld_a_e)⟩
theorem OwnEntry.ld_a_h : OwnEntry.Statement (.ld_a_h) :=
  ⟨0, 0, (by with_unfolding_all rfl : tableEntry false 0x7C 0 0 = .ld_a_h)⟩
theorem OwnEntry.ld_a_l : OwnEntry.Statement (.ld_a_l) :=
  ⟨0, 0, (by with_unfolding_all rfl : tableEntry false 0x7D 0 0 = .ld_a_l)⟩
theorem OwnEntry.ld_a_at_hl : OwnEntry.Statement (.ld_a_at_hl) :=
  ⟨0, 0, (by with_unfolding_all rfl : tableEntry false 0x7E 0 0 = .ld_a_at_hl)⟩
theorem OwnEntry.ld_a_a : OwnEntry.Statement (.ld_a_a) :=
  ⟨0, 0, (by with_unfolding_all rfl : tableEntry false 0x7F 0 0 = .ld_a_a)⟩
theorem OwnEntry.add_a_b : OwnEntry.Statement (.add_a_b) :=
  ⟨0, 0, (by with_unfolding_all rfl : tableEntry false 0x80 0 0 = .add_a_b)⟩
theorem OwnEntry.add_a_c : OwnEntry.Statement (.add_a_c) :=
  ⟨0, 0, (by with_unfolding_all rfl : tableEntry false 0x81 0 0 = .add_a_c)⟩
theorem OwnEntry.add_a_d : OwnEntry.Statement (.add_a_d) :=
  ⟨0, 0, (by with_unfolding_all rfl : tableEntry false 0x82 0 0 = .add_a_d)⟩
theorem OwnEntry.add_a_e : OwnEntry.Statement (.add_a_e) :=
  ⟨0, 0, (by with_unfolding_all rfl : tableEntry false 0x83 0 0 = .add_a_e)⟩
theorem OwnEntry.add_a_h : OwnEntry.Statement (.add_a_h) :=
  ⟨0, 0, (by with_unfolding_all rfl : tableEntry false 0x84 0 0 = .add_a_h)⟩
theorem OwnEntry.add_a_l : OwnEntry.Statement (.add_a_l) :=
  ⟨0, 0, (by with_unfolding_all rfl : tableEntry false 0x85 0 0 = .add_a_l)⟩
theorem OwnEntry.add_a_at_hl : OwnEntry.Statement (.add_a_at_hl) :=
  ⟨0, 0, (by with_unfolding_all rfl : tableEntry false 0x86 0 0 = .add_a_at_hl)⟩
theorem OwnEntry.add_a_a : OwnEntry.Statement (.add_a_a) :=
  ⟨0, 0, (by with_unfolding_all rfl : tableEntry false 0x87 0 0 = .add_a_a)⟩
theorem OwnEntry.adc_a_b : OwnEntry.Statement (.adc_a_b) :=
  ⟨0, 0, (by with_unfolding_all rfl : tableEntry false 0x88 0 0 = .adc_a_b)⟩
theorem OwnEntry.adc_a_c : OwnEntry.Statement (.adc_a_c) :=
  ⟨0, 0, (by with_unfolding_all rfl : tableEntry false 0x89 0 0 = .adc_a_c)⟩
theorem OwnEntry.adc_a_d : OwnEntry.Statement (.adc_a_d) :=
  ⟨0, 0, (by with_unfolding_all rfl : tableEntry false 0x8A 0 0 = .adc_a_d)⟩
theorem OwnEntry.adc_a_e : OwnEntry.Statement (.adc_a_e) :=
  ⟨0, 0, (by with_unfolding_all rfl : tableEntry false 0x8B 0 0 = .adc_a_e)⟩
theorem OwnEntry.adc_a_h : OwnEntry.Statement (.adc_a_h) :=
  ⟨0, 0, (by with_unfolding_all rfl : tableEntry false 0x8C 0 0 = .adc_a_h)⟩
theorem OwnEntry.adc_a_l : OwnEntry.Statement (.adc_a_l) :=
  ⟨0, 0, (by with_unfolding_all rfl : tableEntry false 0x8D 0 0 = .adc_a_l)⟩
theorem OwnEntry.adc_a_at_hl : OwnEntry.Statement (.adc_a_at_hl) :=
  ⟨0, 0, (by with_unfolding_all rfl : tableEntry false 0x8E 0 0 = .adc_a_at_hl)⟩
theorem OwnEntry.adc_a_a : OwnEntry.Statement (.adc_a_a) :=
  ⟨0, 0, (by with_unfolding_all rfl : tableEntry false 0x8F 0 0 = .adc_a_a)⟩
theorem OwnEntry.sub_b : OwnEntry.Statement (.sub_b) :=
  ⟨0, 0, (by with_unfolding_all rfl : tableEntry false 0x90 0 0 = .sub_b)⟩
theorem OwnEntry.sub_c : OwnEntry.Statement (.sub_c) :=
  ⟨0, 0, (by with_unfolding_all rfl : tableEntry false 0x91 0 0 = .sub_c)⟩
theorem OwnEntry.sub_d : OwnEntry.Statement (.sub_d) :=
  ⟨0, 0, (by with_unfolding_all rfl : tableEntry false 0x92 0 0 = .sub_d)⟩
theorem OwnEntry.sub_e : OwnEntry.Statement (.sub_e) :=
  ⟨0, 0, (by with_unfolding_all rfl : tableEntry false 0x93 0 0 = .sub_e)⟩
theorem OwnEntry.sub_h : OwnEntry.Statement (.sub_h) :=
  ⟨0, 0, (by with_unfolding_all rfl : tableEntry false 0x94 0 0 = .sub_h)⟩
theorem OwnEntry.sub_l : OwnEntry.Statement (.sub_l) :=
  ⟨0, 0, (by with_unfolding_all rfl : tableEntry false 0x95 0 0 = .sub_l)⟩
theorem OwnEntry.sub_at_hl : OwnEntry.Statement (.sub_at_hl) :=
  ⟨0, 0, (by with_unfolding_all rfl : tableEntry false 0x96 0 0 = .sub_at_hl)⟩
theorem OwnEntry.sub_a : OwnEntry.Statement (.sub_a) :=
  ⟨0, 0, (by with_unfolding_all rfl : tableEntry false 0x97 0 0 = .sub_a)⟩
theorem OwnEntry.sbc_a_b : OwnEntry.Statement (.sbc_a_b) :=
  ⟨0, 0, (by with_unfolding_all rfl : tableEntry false 0x98 0 0 = .sbc_a_b)⟩
theorem OwnEntry.sbc_a_c : OwnEntry.Statement (.sbc_a_c) :=
  ⟨0, 0, (by with_unfolding_all rfl : tableEntry false 0x99 0 0 = .sbc_a_c)⟩
theorem OwnEntry.sbc_a_d : OwnEntry.Statement (.sbc_a_d) :=
  ⟨0, 0, (by with_unfolding_all rfl : tableEntry false 0x9A 0 0 = .sbc_a_d)⟩
theorem OwnEntry.sbc_a_e : OwnEntry.Statement (.sbc_a_e) :=
  ⟨0, 0, (by with_unfolding_all rfl : tableEntry false 0x9B 0 0 = .sbc_a_e)⟩
theorem OwnEntry.sbc_a_h : OwnEntry.Statement (.sbc_a_h) :=
  ⟨0, 0, (by with_unfolding_all rfl : tableEntry false 0x9C 0 0 = .sbc_a_h)⟩
theorem OwnEntry.sbc_a_l : OwnEntry.Statement (.sbc_a_l) :=
  ⟨0, 0, (by with_unfolding_all rfl : tableEntry false 0x9D 0 0 = .sbc_a_l)⟩
theorem OwnEntry.sbc_a_at_hl : OwnEntry.Statement (.sbc_a_at_hl) :=
  ⟨0, 0, (by with_unfolding_all rfl : tableEntry false 0x9E 0 0 = .sbc_a_at_hl)⟩
theorem OwnEntry.sbc_a_a : OwnEntry.Statement (.sbc_a_a) :=
  ⟨0, 0, (by with_unfolding_all rfl : tableEntry false 0x9F 0 0 = .sbc_a_a)⟩
theorem OwnEntry.and_b : OwnEntry.Statement (.and_b) :=
  ⟨0, 0, (by with_unfolding_all rfl : tableEntry false 0xA0 0 0 = .and_b)⟩
theorem OwnEntry.and_c : OwnEntry.Statement (.and_c) :=
  ⟨0, 0, (by with_unfolding_all rfl : tableEntry false 0xA1 0 0 = .and_c)⟩
theorem OwnEntry.and_d : OwnEntry.Statement (.and_d) :=
  ⟨0, 0, (by with_unfolding_all rfl : tableEntry false 0xA2 0 0 = .and_d)⟩
theorem OwnEntry.and_e : OwnEntry.Statement (.and_e) :=
  ⟨0, 0, (by with_unfolding_all rfl : tableEntry false 0xA3 0 0 = .and_e)⟩
theorem OwnEntry.and_h : OwnEntry.Statement (.and_h) :=
  ⟨0, 0, (by with_unfolding_all rfl : tableEntry false 0xA4 0 0 = .and_h)⟩
theorem OwnEntry.and_l : OwnEntry.Statement (.and_l) :=
  ⟨0, 0, (by with_unfolding_all rfl : tableEntry false 0xA5 0 0 = .and_l)⟩
theorem OwnEntry.and_at_hl : OwnEntry.Statement (.and_at_hl) :=
  ⟨0, 0, (by with_unfolding_all rfl : tableEntry false 0xA6 0 0 = .and_at_hl)⟩
theorem OwnEntry.and_a : OwnEntry.Statement (.and_a) :=
  ⟨0, 0, (by with_unfolding_all rfl : tableEntry false 0xA7 0 0 = .and_a)⟩
theorem OwnEntry.xor_b : OwnEntry.Statement (.xor_b) :=
  ⟨0, 0, (by with_unfolding_all rfl : tableEntry false 0xA8 0 0 = .xor_b)⟩
theorem OwnEntry.xor_c : OwnEntry.Statement (.xor_c) :=
  ⟨0, 0, (by with_unfolding_all rfl : tableEntry false 0xA9 0 0 = .xor_c)⟩
theorem OwnEntry.xor_d : OwnEntry.Statement (.xor_d) :=
  ⟨0, 0, (by with_unfolding_all rfl : tableEntry false 0xAA 0 0 = .xor_d)⟩
theorem OwnEntry.xor_e : OwnEntry.Statement (.xor_e) :=
  ⟨0, 0, (by with_unfolding_all rfl : tableEntry false 0xAB 0 0 = .xor_e)⟩
theorem OwnEntry.xor_h : OwnEntry.Statement (.xor_h) :=
  ⟨0, 0, (by with_unfolding_all rfl : tableEntry false 0xAC 0 0 = .xor_h)⟩
theorem OwnEntry.xor_l : OwnEntry.Statement (.xor_l) :=
  ⟨0, 0, (by with_unfolding_all rfl : tableEntry false 0xAD 0 0 = .xor_l)⟩
theorem OwnEntry.xor_at_hl : OwnEntry.Statement (.xor_at_hl) :=
  ⟨0, 0, (by with_unfolding_all rfl : tableEntry false 0xAE 0 0 = .xor_at_hl)⟩
theorem OwnEntry.xor_a : OwnEntry.Statement (.xor_a) :=
  ⟨0, 0, (by with_unfolding_all rfl : tableEntry false 0xAF 0 0 = .xor_a)⟩
theorem OwnEntry.or_b : OwnEntry.Statement (.or_b) :=
  ⟨0, 0, (by with_unfolding_all rfl : tableEntry false 0xB0 0 0 = .or_b)⟩
theorem OwnEntry.or_c : OwnEntry.Statement (.or_c) :=
  ⟨0, 0, (by with_unfolding_all rfl : tableEntry false 0xB1 0 0 = .or_c)⟩
theorem OwnEntry.or_d : OwnEntry.Statement (.or_d) :=
  ⟨0, 0, (by with_unfolding_all rfl : tableEntry false 0xB2 0 0 = .or_d)⟩
theorem OwnEntry.or_e : OwnEntry.Statement (.or_e) :=
  ⟨0, 0, (by with_unfolding_all rfl : tableEntry false 0xB3 0 0 = .or_e)⟩
theorem OwnEntry.or_h : OwnEntry.Statement (.or_h) :=
  ⟨0, 0, (by with_unfolding_all rfl : tableEntry false 0xB4 0 0 = .or_h)⟩
theorem OwnEntry.or_l : OwnEntry.Statement (.or_l) :=
  ⟨0, 0, (by with_unfolding_all rfl : tableEntry false 0xB5 0 0 = .or_l)⟩
theorem OwnEntry.or_at_hl : OwnEntry.Statement (.or_at_hl) :=
  ⟨0, 0, (by with_unfolding_all rfl : tableEntry false 0xB6 0 0 = .or_at_hl)⟩
theorem OwnEntry.or_a : OwnEntry.Statement (.or_a) :=
  ⟨0, 0, (by with_unfolding_all rfl : tableEntry false 0xB7 0 0 = .or_a)⟩
theorem OwnEntry.cp_b : OwnEntry.Statement (.cp_b) :=
  ⟨0, 0, (by with_unfolding_all rfl : tableEntry false 0xB8 0 0 = .cp_b)⟩
theorem OwnEntry.cp_c : OwnEntry.Statement (.cp_c) :=
  ⟨0, 0, (by with_unfolding_all rfl : tableEntry false 0xB9 0 0 = .cp_c)⟩
theorem OwnEntry.cp_d : OwnEntry.Statement (.cp_d) :=
  ⟨0, 0, (by with_unfolding_all rfl : tableEntry false 0xBA 0 0 = .cp_d)⟩
theorem OwnEntry.cp_e : OwnEntry.Statement (.cp_e) :=
  ⟨0, 0, (by with_unfolding_all rfl : tableEntry false 0xBB 0 0 = .cp_e)⟩
theorem OwnEntry.cp_h : OwnEntry.Statement (.cp_h) :=
  ⟨0, 0, (by with_unfolding_all rfl : tableEntry false 0xBC 0 0 = .cp_h)⟩
theorem OwnEntry.cp_l : OwnEntry.Statement (.cp_l) :=
  ⟨0, 0, (by with_unfolding_all rfl : tableEntry false 0xBD 0 0 = .cp_l)⟩
theorem OwnEntry.cp_at_hl : OwnEntry.Statement (.cp_at_hl) :=
  ⟨0, 0, (by with_unfolding_all rfl : tableEntry false 0xBE 0 0 = .cp_at_hl)⟩
theorem OwnEntry.cp_a : OwnEntry.Statement (.cp_a) :=
  ⟨0, 0, (by with_unfolding_all rfl : tableEntry false 0xBF 0 0 = .cp_a)⟩
theorem OwnEntry.ret_nz : OwnEntry.Statement (.ret_nz) :=
  ⟨0, 0, (by with_unfolding_all rfl : tableEntry false 0xC0 0 0 = .ret_nz)⟩
theorem OwnEntry.pop_bc : OwnEntry.Statement (.pop_bc) :=
  ⟨0, 0, (by with_unfolding_all rfl : tableEntry false 0xC1 0 0 = .pop_bc)⟩
theorem OwnEntry.jp_nz_nn (nn : Word) : OwnEntry.Statement (.jp_nz_nn nn) :=
  ⟨0, nn, (by with_unfolding_all rfl : tableEntry false 0xC2 0 nn = .jp_nz_nn nn)⟩
theorem OwnEntry.jp_nn (nn : Word) : OwnEntry.Statement (.jp_nn nn) :=
  ⟨0, nn, (by with_unfolding_all rfl : tableEntry false 0xC3 0 nn = .jp_nn nn)⟩
theorem OwnEntry.call_nz_nn (nn : Word) : OwnEntry.Statement (.call_nz_nn nn) :=
  ⟨0, nn, (by with_unfolding_all rfl : tableEntry false 0xC4 0 nn = .call_nz_nn nn)⟩
theorem OwnEntry.push_bc : OwnEntry.Statement (.push_bc) :=
  ⟨0, 0, (by with_unfolding_all rfl : tableEntry false 0xC5 0 0 = .push_bc)⟩
theorem OwnEntry.add_a_n (n : Byte) : OwnEntry.Statement (.add_a_n n) :=
  ⟨n, 0, (by with_unfolding_all rfl : tableEntry false 0xC6 n 0 = .add_a_n n)⟩
theorem OwnEntry.rst_00 : OwnEntry.Statement (.rst_00) :=
  ⟨0, 0, (by with_unfolding_all rfl : tableEntry false 0xC7 0 0 = .rst_00)⟩
theorem OwnEntry.ret_z : OwnEntry.Statement (.ret_z) :=
  ⟨0, 0, (by with_unfolding_all rfl : tableEntry false 0xC8 0 0 = .ret_z)⟩
theorem OwnEntry.ret : OwnEntry.Statement (.ret) :=
  ⟨0, 0, (by with_unfolding_all rfl : tableEntry false 0xC9 0 0 = .ret)⟩
theorem OwnEntry.jp_z_nn (nn : Word) : OwnEntry.Statement (.jp_z_nn nn) :=
  ⟨0, nn, (by with_unfolding_all rfl : tableEntry false 0xCA 0 nn = .jp_z_nn nn)⟩
theorem OwnEntry.prefix_cb : OwnEntry.Statement (.prefix_cb) :=
  ⟨0, 0, (by with_unfolding_all rfl : tableEntry false 0xCB 0 0 = .prefix_cb)⟩
theorem OwnEntry.call_z_nn (nn : Word) : OwnEntry.Statement (.call_z_nn nn) :=
  ⟨0, nn, (by with_unfolding_all rfl : tableEntry false 0xCC 0 nn = .call_z_nn nn)⟩
theorem OwnEntry.call_nn (nn : Word) : OwnEntry.Statement (.call_nn nn) :=
  ⟨0, nn, (by with_unfolding_all rfl : tableEntry false 0xCD 0 nn = .call_nn nn)⟩
theorem OwnEntry.adc_a_n (n : Byte) : OwnEntry.Statement (.adc_a_n n) :=
  ⟨n, 0, (by with_unfolding_all rfl : tableEntry false 0xCE n 0 = .adc_a_n n)⟩
theorem OwnEntry.rst_08 : OwnEntry.Statement (.rst_08) :=
  ⟨0, 0, (by with_unfolding_all rfl : tableEntry false 0xCF 0 0 = .rst_08)⟩
theorem OwnEntry.ret_nc : OwnEntry.Statement (.ret_nc) :=
  ⟨0, 0, (by with_unfolding_all rfl : tableEntry false 0xD0 0 0 = .ret_nc)⟩
theorem OwnEntry.pop_de : OwnEntry.Statement (.pop_de) :=
  ⟨0, 0, (by with_unfolding_all rfl : tableEntry false 0xD1 0 0 = .pop_de)⟩
theorem OwnEntry.jp_nc_nn (nn : Word) : OwnEntry.Statement (.jp_nc_nn nn) :=
  ⟨0, nn, (by with_unfolding_all rfl : tableEntry false 0xD2 0 nn = .jp_nc_nn nn)⟩
theorem OwnEntry.undef_d3 : OwnEntry.Statement (.undef_d3) :=
  ⟨0, 0, (by with_unfolding_all rfl : tableEntry false 0xD3 0 0 = .undef_d3)⟩
theorem OwnEntry.call_nc_nn (nn : Word) : OwnEntry.Statement (.call_nc_nn nn) :=
  ⟨0, nn, (by with_unfolding_all rfl : tableEntry false 0xD4 0 nn = .call_nc_nn nn)⟩
theorem OwnEntry.push_de : OwnEntry.Statement (.push_de) :=
  ⟨0, 0, (by with_unfolding_all rfl : tableEntry false 0xD5 0 0 = .push_de)⟩
theorem OwnEntry.sub_n (n : Byte) : OwnEntry.Statement (.sub_n n) :=
  ⟨n, 0, (by with_unfolding_all rfl : tableEntry false 0xD6 n 0 = .sub_n n)⟩
theorem OwnEntry.rst_10 : OwnEntry.Statement (.rst_10) :=
  ⟨0, 0, (by with_unfolding_all rfl : tableEntry false 0xD7 0 0 = .rst_10)⟩
theorem OwnEntry.ret_c : OwnEntry.Statement (.ret_c) :=
  ⟨0, 0, (by with_unfolding_all rfl : tableEntry false 0xD8 0 0 = .ret_c)⟩
theorem OwnEntry.reti : OwnEntry.Statement (.reti) :=
  ⟨0, 0, (by with_unfolding_all rfl : tableEntry false 0xD9 0 0 = .reti)⟩
theorem OwnEntry.jp_c_nn (nn : Word) : OwnEntry.Statement (.jp_c_nn nn) :=
  ⟨0, nn, (by with_unfolding_all rfl : tableEntry false 0xDA 0 nn = .jp_c_nn nn)⟩
theorem OwnEntry.undef_db : OwnEntry.Statement (.undef_db) :=
  ⟨0, 0, (by with_unfolding_all rfl : tableEntry false 0xDB 0 0 = .undef_db)⟩
theorem OwnEntry.call_c_nn (nn : Word) : OwnEntry.Statement (.call_c_nn nn) :=
  ⟨0, nn, (by with_unfolding_all rfl : tableEntry false 0xDC 0 nn = .call_c_nn nn)⟩
theorem OwnEntry.undef_dd : OwnEntry.Statement (.undef_dd) :=
  ⟨0, 0, (by with_unfolding_all rfl : tableEntry false 0xDD 0 0 = .undef_dd)⟩
theorem OwnEntry.sbc_a_n (n : Byte) : OwnEntry.Statement (.sbc_a_n n) :=
  ⟨n, 0, (by with_unfolding_all rfl : tableEntry false 0xDE n 0 = .sbc_a_n n)⟩
theorem OwnEntry.rst_18 : OwnEntry.Statement (.rst_18) :=
  ⟨0, 0, (by with_unfolding_all rfl : tableEntry false 0xDF 0 0 = .rst_18)⟩
theorem OwnEntry.ldh_at_n_a (n : Byte) : OwnEntry.Statement (.ldh_at_n_a n) :=
  ⟨n, 0, (by with_unfolding_all rfl : tableEntry false 0xE0 n 0 = .ldh_at_n_a n)⟩
theorem OwnEntry.pop_hl : OwnEntry.Statement (.pop_hl) :=
  ⟨0, 0, (by with_unfolding_all rfl : tableEntry false 0xE1 0 0 = .pop_hl)⟩
theorem OwnEntry.ldh_at_c_a : OwnEntry.Statement (.ldh_at_c_a) :=
  ⟨0, 0, (by with_unfolding_all rfl : tableEntry false 0xE2 0 0 = .ldh_at_c_a)⟩
theorem OwnEntry.undef_e3 : OwnEntry.Statement (.undef_e3) :=
  ⟨0, 0, (by with_unfolding_all rfl : tableEntry false 0xE3 0 0 = .undef_e3)⟩
theorem OwnEntry.undef_e4 : OwnEntry.Statement (.undef_e4) :=
  ⟨0, 0, (by with_unfolding_all rfl : tableEntry false 0xE4 0 0 = .undef_e4)⟩
theorem OwnEntry.push_hl : OwnEntry.Statement (.push_hl) :=
  ⟨0, 0, (by with_unfolding_all rfl : tableEntry false 0xE5 0 0 = .push_hl)⟩
theorem OwnEntry.and_n (n : Byte) : OwnEntry.Statement (.and_n n) :=
  ⟨n, 0, (by with_unfolding_all rfl : tableEntry false 0xE6 n 0 = .and_n n)⟩
theorem OwnEntry.rst_20 : OwnEntry.Statement (.rst_20) :=
  ⟨0, 0, (by with_unfolding_all rfl : tableEntry false 0xE7 0 0 = .rst_20)⟩
theorem OwnEntry.add_sp_e (e : Byte) : OwnEntry.Statement (.add_sp_e e) :=
  ⟨e, 0, (by with_unfolding_all rfl : tableEntry false 0xE8 e 0 = .add_sp_e e)⟩
theorem OwnEntry.jp_hl : OwnEntry.Statement (.jp_hl) :=
  ⟨0, 0, (by with_unfolding_all rfl : tableEntry false 0xE9 0 0 = .jp_hl)⟩
theorem OwnEntry.ld_at_nn_a (nn : Word) : OwnEntry.Statement (.ld_at_nn_a nn) :=
  ⟨0, nn, (by with_unfolding_all rfl : tableEntry false 0xEA 0 nn = .ld_at_nn_a nn)⟩
theorem OwnEntry.undef_eb : OwnEntry.Statement (.undef_eb) :=
  ⟨0, 0, (by with_unfolding_all rfl : tableEntry false 0xEB 0 0 = .undef_eb)⟩
theorem OwnEntry.undef_ec : OwnEntry.Statement (.undef_ec) :=
  ⟨0, 0, (by with_unfolding_all rfl : tableEntry false 0xEC 0 0 = .undef_ec)⟩
theorem OwnEntry.undef_ed : OwnEntry.Statement (.undef_ed) :=
  ⟨0, 0, (by with_unfolding_all rfl : tableEntry false 0xED 0 0 = .undef_ed)⟩
theorem OwnEntry.xor_n (n : Byte) : OwnEntry.Statement (.xor_n n) :=
  ⟨n, 0, (by with_unfolding_all rfl : tableEntry false 0xEE n 0 = .xor_n n)⟩
theorem OwnEntry.rst_28 : OwnEntry.Statement (.rst_28) :=
  ⟨0, 0, (by with_unfolding_all rfl : tableEntry false 0xEF 0 0 = .rst_28)⟩
theorem OwnEntry.ldh_a_at_n (n : Byte) : OwnEntry.Statement (.ldh_a_at_n n) :=
  ⟨n, 0, (by with_unfolding_all rfl : tableEntry false 0xF0 n 0 = .ldh_a_at_n n)⟩
theorem OwnEntry.pop_af : OwnEntry.Statement (.pop_af) :=
  ⟨0, 0, (by with_unfolding_all rfl : tableEntry false 0xF1 0 0 = .pop_af)⟩
theorem OwnEntry.ldh_a_at_c : OwnEntry.Statement (.ldh_a_at_c) :=
  ⟨0, 0, (by with_unfolding_all rfl : tableEntry false 0xF2 0 0 = .ldh_a_at_c)⟩
theorem OwnEntry.di : OwnEntry.Statement (.di) :=
  ⟨0, 0, (by with_unfolding_all rfl : tableEntry false 0xF3 0 0 = .di)⟩
theorem OwnEntry.undef_f4 : OwnEntry.Statement (.undef_f4) :=
  ⟨0, 0, (by with_unfolding_all rfl : tableEntry false 0xF4 0 0 = .undef_f4)⟩
theorem OwnEntry.push_af : OwnEntry.Statement (.push_af) :=
  ⟨0, 0, (by with_unfolding_all rfl : tableEntry false 0xF5 0 0 = .push_af)⟩
theorem OwnEntry.or_n (n : Byte) : OwnEntry.Statement (.or_n n) :=
  ⟨n, 0, (by with_unfolding_all rfl : tableEntry false 0xF6 n 0 = .or_n n)⟩
theorem OwnEntry.rst_30 : OwnEntry.Statement (.rst_30) :=
  ⟨0, 0, (by with_unfolding_all rfl : tableEntry false 0xF7 0 0 = .rst_30)⟩
theorem OwnEntry.ld_hl_sp_e (e : Byte) : OwnEntry.Statement (.ld_hl_sp_e e) :=
  ⟨e, 0, (by with_unfolding_all rfl : tableEntry false 0xF8 e 0 = .ld_hl_sp_e e)⟩
theorem OwnEntry.ld_sp_hl : OwnEntry.Statement (.ld_sp_hl) :=
  ⟨0, 0, (by with_unfolding_all rfl : tableEntry false 0xF9 0 0 = .ld_sp_hl)⟩
theorem OwnEntry.ld_a_at_nn (nn : Word) : OwnEntry.Statement (.ld_a_at_nn nn) :=
  ⟨0, nn, (by with_unfolding_all rfl : tableEntry false 0xFA 0 nn = .ld_a_at_nn nn)⟩
theorem OwnEntry.ei : OwnEntry.Statement (.ei) :=
  ⟨0, 0, (by with_unfolding_all rfl : tableEntry false 0xFB 0 0 = .ei)⟩
theorem OwnEntry.undef_fc : OwnEntry.Statement (.undef_fc) :=
  ⟨0, 0, (by with_unfolding_all rfl : tableEntry false 0xFC 0 0 = .undef_fc)⟩
theorem OwnEntry.undef_fd : OwnEntry.Statement (.undef_fd) :=
  ⟨0, 0, (by with_unfolding_all rfl : tableEntry false 0xFD 0 0 = .undef_fd)⟩
theorem OwnEntry.cp_n (n : Byte) : OwnEntry.Statement (.cp_n n) :=
  ⟨n, 0, (by with_unfolding_all rfl : tableEntry false 0xFE n 0 = .cp_n n)⟩
theorem OwnEntry.rst_38 : OwnEntry.Statement (.rst_38) :=
  ⟨0, 0, (by with_unfolding_all rfl : tableEntry false 0xFF 0 0 = .rst_38)⟩
theorem OwnEntry.rlc_b : OwnEntry.Statement (.rlc_b) :=
  ⟨0, 0, (by with_unfolding_all rfl : tableEntry true 0x00 0 0 = .rlc_b)⟩
theorem OwnEntry.rlc_c : OwnEntry.Statement (.rlc_c) :=
  ⟨0, 0, (by with_unfolding_all rfl : tableEntry true 0x01 0 0 = .rlc_c)⟩
theorem OwnEntry.rlc_d : OwnEntry.Statement (.rlc_d) :=
  ⟨0, 0, (by with_unfolding_all rfl : tableEntry true 0x02 0 0 = .rlc_d)⟩
theorem OwnEntry.rlc_e : OwnEntry.Statement (.rlc_e) :=
  ⟨0, 0, (by with_unfolding_all rfl : tableEntry true 0x03 0 0 = .rlc_e)⟩
theorem OwnEntry.rlc_h : OwnEntry.Statement (.rlc_h) :=
  ⟨0, 0, (by with_unfolding_all rfl : tableEntry true 0x04 0 0 = .rlc_h)⟩
theorem OwnEntry.rlc_l : OwnEntry.Statement (.rlc_l) :=
  ⟨0, 0, (by with_unfolding_all rfl : tableEntry true 0x05 0 0 = .rlc_l)⟩
theorem OwnEntry.rlc_at_hl : OwnEntry.Statement (.rlc_at_hl) :=
  ⟨0, 0, (by with_unfolding_all rfl : tableEntry true 0x06 0 0 = .rlc_at_hl)⟩
theorem OwnEntry.rlc_a : OwnEntry.Statement (.rlc_a) :=
  ⟨0, 0, (by with_unfolding_all rfl : tableEntry true 0x07 0 0 = .rlc_a)⟩
theorem OwnEntry.rrc_b : OwnEntry.Statement (.rrc_b) :=
  ⟨0, 0, (by with_unfolding_all rfl : tableEntry true 0x08 0 0 = .rrc_b)⟩
theorem OwnEntry.rrc_c : OwnEntry.Statement (.rrc_c) :=
  ⟨0, 0, (by with_unfolding_all rfl : tableEntry true 0x09 0 0 = .rrc_c)⟩
theorem OwnEntry.rrc_d : OwnEntry.Statement (.rrc_d) :=
  ⟨0, 0, (by with_unfolding_all rfl : tableEntry true 0x0A 0 0 = .rrc_d)⟩
theorem OwnEntry.rrc_e : OwnEntry.Statement (.rrc_e) :=
  ⟨0, 0, (by with_unfolding_all rfl : tableEntry true 0x0B 0 0 = .rrc_e)⟩
theorem OwnEntry.rrc_h : OwnEntry.Statement (.rrc_h) :=
  ⟨0, 0, (by with_unfolding_all rfl : tableEntry true 0x0C 0 0 = .rrc_h)⟩
theorem OwnEntry.rrc_l : OwnEntry.Statement (.rrc_l) :=
  ⟨0, 0, (by with_unfolding_all rfl : tableEntry true 0x0D 0 0 = .rrc_l)⟩
theorem OwnEntry.rrc_at_hl : OwnEntry.Statement (.rrc_at_hl) :=
  ⟨0, 0, (by with_unfolding_all rfl : tableEntry true 0x0E 0 0 = .rrc_at_hl)⟩
theorem OwnEntry.rrc_a : OwnEntry.Statement (.rrc_a) :=
  ⟨0, 0, (by with_unfolding_all rfl : tableEntry true 0x0F 0 0 = .rrc_a)⟩
theorem OwnEntry.rl_b : OwnEntry.Statement (.rl_b) :=
  ⟨0, 0, (by with_unfolding_all rfl : tableEntry true 0x10 0 0 = .rl_b)⟩
theorem OwnEntry.rl_c : OwnEntry.Statement (.rl_c) :=
  ⟨0, 0, (by with_unfolding_all rfl : tableEntry true 0x11 0 0 = .rl_c)⟩
theorem OwnEntry.rl_d : OwnEntry.Statement (.rl_d) :=
  ⟨0, 0, (by with_unfolding_all rfl : tableEntry true 0x12 0 0 = .rl_d)⟩
theorem OwnEntry.rl_e : OwnEntry.Statement (.rl_e) :=
  ⟨0, 0, (by with_unfolding_all rfl : tableEntry true 0x13 0 0 = .rl_e)⟩
theorem OwnEntry.rl_h : OwnEntry.Statement (.rl_h) :=
  ⟨0, 0, (by with_unfolding_all rfl : tableEntry true 0x14 0 0 = .rl_h)⟩
theorem OwnEntry.rl_l : OwnEntry.Statement (.rl_l) :=
  ⟨0, 0, (by with_unfolding_all rfl : tableEntry true 0x15 0 0 = .rl_l)⟩
theorem OwnEntry.rl_at_hl : OwnEntry.Statement (.rl_at_hl) :=
  ⟨0, 0, (by with_unfolding_all rfl : tableEntry true 0x16 0 0 = .rl_at_hl)⟩
theorem OwnEntry.rl_a : OwnEntry.Statement (.rl_a) :=
  ⟨0, 0, (by with_unfolding_all rfl : tableEntry true 0x17 0 0 = .rl_a)⟩
theorem OwnEntry.rr_b : OwnEntry.Statement (.rr_b) :=
  ⟨0, 0, (by with_unfolding_all rfl : tableEntry true 0x18 0 0 = .rr_b)⟩
theorem OwnEntry.rr_c : OwnEntry.Statement (.rr_c) :=
  ⟨0, 0, (by with_unfolding_all rfl : tableEntry true 0x19 0 0 = .rr_c)⟩
theorem OwnEntry.rr_d : OwnEntry.Statement (.rr_d) :=
  ⟨0, 0, (by with_unfolding_all rfl : tableEntry true 0x1A 0 0 = .rr_d)⟩
theorem OwnEntry.rr_e : OwnEntry.Statement (.rr_e) :=
  ⟨0, 0, (by with_unfolding_all rfl : tableEntry true 0x1B 0 0 = .rr_e)⟩
theorem OwnEntry.rr_h : OwnEntry.Statement (.rr_h) :=
  ⟨0, 0, (by with_unfolding_all rfl : tableEntry true 0x1C 0 0 = .rr_h)⟩
theorem OwnEntry.rr_l : OwnEntry.Statement (.rr_l) :=
  ⟨0, 0, (by with_unfolding_all rfl : tableEntry true 0x1D 0 0 = .rr_l)⟩
theorem OwnEntry.rr_at_hl : OwnEntry.Statement (.rr_at_hl) :=
  ⟨0, 0, (by with_unfolding_all rfl : tableEntry true 0x1E 0 0 = .rr_at_hl)⟩
theorem OwnEntry.rr_a : OwnEntry.Statement (.rr_a) :=
  ⟨0, 0, (by with_unfolding_all rfl : tableEntry true 0x1F 0 0 = .rr_a)⟩
theorem OwnEntry.sla_b : OwnEntry.Statement (.sla_b) :=
  ⟨0, 0, (by with_unfolding_all rfl : tableEntry true 0x20 0 0 = .sla_b)⟩
theorem OwnEntry.sla_c : OwnEntry.Statement (.sla_c) :=
  ⟨0, 0, (by with_unfolding_all rfl : tableEntry true 0x21 0 0 = .sla_c)⟩
theorem OwnEntry.sla_d : OwnEntry.Statement (.sla_d) :=
  ⟨0, 0, (by with_unfolding_all rfl : tableEntry true 0x22 0 0 = .sla_d)⟩
theorem OwnEntry.sla_e : OwnEntry.Statement (.sla_e) :=
  ⟨0, 0, (by with_unfolding_all rfl : tableEntry true 0x23 0 0 = .sla_e)⟩
theorem OwnEntry.sla_h : OwnEntry.Statement (.sla_h) :=
  ⟨0, 0, (by with_unfolding_all rfl : tableEntry true 0x24 0 0 = .sla_h)⟩
theorem OwnEntry.sla_l : OwnEntry.Statement (.sla_l) :=
  ⟨0, 0, (by with_unfolding_all rfl : tableEntry true 0x25 0 0 = .sla_l)⟩
theorem OwnEntry.sla_at_hl : OwnEntry.Statement (.sla_at_hl) :=
  ⟨0, 0, (by with_unfolding_all rfl : tableEntry true 0x26 0 0 = .sla_at_hl)⟩
theorem OwnEntry.sla_a : OwnEntry.Statement (.sla_a) :=
  ⟨0, 0, (by with_unfolding_all rfl : tableEntry true 0x27 0 0 = .sla_a)⟩
theorem OwnEntry.sra_b : OwnEntry.Statement (.sra_b) :=
  ⟨0, 0, (by with_unfolding_all rfl : tableEntry true 0x28 0 0 = .sra_b)⟩
theorem OwnEntry.sra_c : OwnEntry.Statement (.sra_c) :=
  ⟨0, 0, (by with_unfolding_all rfl : tableEntry true 0x29 0 0 = .sra_c)⟩
theorem OwnEntry.sra_d : OwnEntry.Statement (.sra_d) :=
  ⟨0, 0, (by with_unfolding_all rfl : tableEntry true 0x2A 0 0 = .sra_d)⟩
theorem OwnEntry.sra_e : OwnEntry.Statement (.sra_e) :=
  ⟨0, 0, (by with_unfolding_all rfl : tableEntry true 0x2B 0 0 = .sra_e)⟩
theorem OwnEntry.sra_h : OwnEntry.Statement (.sra_h) :=
  ⟨0, 0, (by with_unfolding_all rfl : tableEntry true 0x2C 0 0 = .sra_h)⟩
theorem OwnEntry.sra_l : OwnEntry.Statement (.sra_l) :=
  ⟨0, 0, (by with_unfolding_all rfl : tableEntry true 0x2D 0 0 = .sra_l)⟩
theorem OwnEntry.sra_at_hl : OwnEntry.Statement (.sra_at_hl) :=
  ⟨0, 0, (by with_unfolding_all rfl : tableEntry true 0x2E 0 0 = .sra_at_hl)⟩
theorem OwnEntry.sra_a : OwnEntry.Statement (.sra_a) :=
  ⟨0, 0, (by with_unfolding_all rfl : tableEntry true 0x2F 0 0 = .sra_a)⟩
theorem OwnEntry.swap_b : OwnEntry.Statement (.swap_b) :=
  ⟨0, 0, (by with_unfolding_all rfl : tableEntry true 0x30 0 0 = .swap_b)⟩
theorem OwnEntry.swap_c : OwnEntry.Statement (.swap_c) :=
  ⟨0, 0, (by with_unfolding_all rfl : tableEntry true 0x31 0 0 = .swap_c)⟩
theorem OwnEntry.swap_d : OwnEntry.Statement (.swap_d) :=
  ⟨0, 0, (by with_unfolding_all rfl : tableEntry true 0x32 0 0 = .swap_d)⟩
theorem OwnEntry.swap_e : OwnEntry.Statement (.swap_e) :=
  ⟨0, 0, (by with_unfolding_all rfl : tableEntry true 0x33 0 0 = .swap_e)⟩
theorem OwnEntry.swap_h : OwnEntry.Statement (.swap_h) :=
  ⟨0, 0, (by with_unfolding_all rfl : tableEntry true 0x34 0 0 = .swap_h)⟩
theorem OwnEntry.swap_l : OwnEntry.Statement (.swap_l) :=
  ⟨0, 0, (by with_unfolding_all rfl : tableEntry true 0x35 0 0 = .swap_l)⟩
theorem OwnEntry.swap_at_hl : OwnEntry.Statement (.swap_at_hl) :=
  ⟨0, 0, (by with_unfolding_all rfl : tableEntry true 0x36 0 0 = .swap_at_hl)⟩
theorem OwnEntry.swap_a : OwnEntry.Statement (.swap_a) :=
  ⟨0, 0, (by with_unfolding_all rfl : tableEntry true 0x37 0 0 = .swap_a)⟩
theorem OwnEntry.srl_b : OwnEntry.Statement (.srl_b) :=
  ⟨0, 0, (by with_unfolding_all rfl : tableEntry true 0x38 0 0 = .srl_b)⟩
theorem OwnEntry.srl_c : OwnEntry.Statement (.srl_c) :=
  ⟨0, 0, (by with_unfolding_all rfl : tableEntry true 0x39 0 0 = .srl_c)⟩
theorem OwnEntry.srl_d : OwnEntry.Statement (.srl_d) :=
  ⟨0, 0, (by with_unfolding_all rfl : tableEntry true 0x3A 0 0 = .srl_d)⟩
theorem OwnEntry.srl_e : OwnEntry.Statement (.srl_e) :=
  ⟨0, 0, (by with_unfolding_all rfl : tableEntry true 0x3B 0 0 = .srl_e)⟩
theorem OwnEntry.srl_h : OwnEntry.Statement (.srl_h) :=
  ⟨0, 0, (by with_unfolding_all rfl : tableEntry true 0x3C 0 0 = .srl_h)⟩
theorem OwnEntry.srl_l : OwnEntry.Statement (.srl_l) :=
  ⟨0, 0, (by with_unfolding_all rfl : tableEntry true 0x3D 0 0 = .srl_l)⟩
theorem OwnEntry.srl_at_hl : OwnEntry.Statement (.srl_at_hl) :=
  ⟨0, 0, (by with_unfolding_all rfl : tableEntry true 0x3E 0 0 = .srl_at_hl)⟩
theorem OwnEntry.srl_a : OwnEntry.Statement (.srl_a) :=
  ⟨0, 0, (by with_unfolding_all rfl : tableEntry true 0x3F 0 0 = .srl_a)⟩
theorem OwnEntry.bit_0_b : OwnEntry.Statement (.bit_0_b) :=
  ⟨0, 0, (by with_unfolding_all rfl : tableEntry true 0x40 0 0 = .bit_0_b)⟩
theorem OwnEntry.bit_0_c : OwnEntry.Statement (.bit_0_c) :=
  ⟨0, 0, (by with_unfolding_all rfl : tableEntry true 0x41 0 0 = .bit_0_c)⟩
theorem OwnEntry.bit_0_d : OwnEntry.Statement (.bit_0_d) :=
  ⟨0, 0, (by with_unfolding_all rfl : tableEntry true 0x42 0 0 = .bit_0_d)⟩
theorem OwnEntry.bit_0_e : OwnEntry.Statement (.bit_0_e) :=
  ⟨0, 0, (by with_unfolding_all rfl : tableEntry true 0x43 0 0 = .bit_0_e)⟩
theorem OwnEntry.bit_0_h : OwnEntry.Statement (.bit_0_h) :=
  ⟨0, 0, (by with_unfolding_all rfl : tableEntry true 0x44 0 0 = .bit_0_h)⟩
theorem OwnEntry.bit_0_l : OwnEntry.Statement (.bit_0_l) :=
  ⟨0, 0, (by with_unfolding_all rfl : tableEntry true 0x45 0 0 = .bit_0_l)⟩
theorem OwnEntry.bit_0_at_hl : OwnEntry.Statement (.bit_0_at_hl) :=
  ⟨0, 0, (by with_unfolding_all rfl : tableEntry true 0x46 0 0 = .bit_0_at_hl)⟩
theorem OwnEntry.bit_0_a : OwnEntry.Statement (.bit_0_a) :=
  ⟨0, 0, (by with_unfolding_all rfl : tableEntry true 0x47 0 0 = .bit_0_a)⟩
theorem OwnEntry.bit_1_b : OwnEntry.Statement (.bit_1_b) :=
  ⟨0, 0, (by with_unfolding_all rfl : tableEntry true 0x48 0 0 = .bit_1_b)⟩
theorem OwnEntry.bit_1_c : OwnEntry.Statement (.bit_1_c) :=
  ⟨0, 0, (by with_unfolding_all rfl : tableEntry true 0x49 0 0 = .bit_1_c)⟩
theorem OwnEntry.bit_1_d : OwnEntry.Statement (.bit_1_d) :=
  ⟨0, 0, (by with_unfolding_all rfl : tableEntry true 0x4A 0 0 = .bit_1_d)⟩
theorem OwnEntry.bit_1_e : OwnEntry.Statement (.bit_1_e) :=
  ⟨0, 0, (by with_unfolding_all rfl : tableEntry true 0x4B 0 0 = .bit_1_e)⟩
theorem OwnEntry.bit_1_h : OwnEntry.Statement (.bit_1_h) :=
  ⟨0, 0, (by with_unfolding_all rfl : tableEntry true 0x4C 0 0 = .bit_1_h)⟩
theorem OwnEntry.bit_1_l : OwnEntry.Statement (.bit_1_l) :=
  ⟨0, 0, (by with_unfolding_all rfl : tableEntry true 0x4D 0 0 = .bit_1_l)⟩
theorem OwnEntry.bit_1_at_hl : OwnEntry.Statement (.bit_1_at_hl) :=
  ⟨0, 0, (by with_unfolding_all rfl : tableEntry true 0x4E 0 0 = .bit_1_at_hl)⟩
theorem OwnEntry.bit_1_a : OwnEntry.Statement (.bit_1_a) :=
  ⟨0, 0, (by with_unfolding_all rfl : tableEntry true 0x4F 0 0 = .bit_1_a)⟩
theorem OwnEntry.bit_2_b : OwnEntry.Statement (.bit_2_b) :=
  ⟨0, 0, (by with_unfolding_all rfl : tableEntry true 0x50 0 0 = .bit_2_b)⟩
theorem OwnEntry.bit_2_c : OwnEntry.Statement (.bit_2_c) :=
  ⟨0, 0, (by with_unfolding_all rfl : tableEntry true 0x51 0 0 = .bit_2_c)⟩
theorem OwnEntry.bit_2_d : OwnEntry.Statement (.bit_2_d) :=
  ⟨0, 0, (by with_unfolding_all rfl : tableEntry true 0x52 0 0 = .bit_2_d)⟩
theorem OwnEntry.bit_2_e : OwnEntry.Statement (.bit_2_e) :=
  ⟨0, 0, (by with_unfolding_all rfl : tableEntry true 0x53 0 0 = .bit_2_e)⟩
theorem OwnEntry.bit_2_h : OwnEntry.Statement (.bit_2_h) :=
  ⟨0, 0, (by with_unfolding_all rfl : tableEntry true 0x54 0 0 = .bit_2_h)⟩
theorem OwnEntry.bit_2_l : OwnEntry.Statement (.bit_2_l) :=
  ⟨0, 0, (by with_unfolding_all rfl : tableEntry true 0x55 0 0 = .bit_2_l)⟩
theorem OwnEntry.bit_2_at_hl : OwnEntry.Statement (.bit_2_at_hl) :=
  ⟨0, 0, (by with_unfolding_all rfl : tableEntry true 0x56 0 0 = .bit_2_at_hl)⟩
theorem OwnEntry.bit_2_a : OwnEntry.Statement (.bit_2_a) :=
  ⟨0, 0, (by with_unfolding_all rfl : tableEntry true 0x57 0 0 = .bit_2_a)⟩
theorem OwnEntry.bit_3_b : OwnEntry.Statement (.bit_3_b) :=
  ⟨0, 0, (by with_unfolding_all rfl : tableEntry true 0x58 0 0 = .bit_3_b)⟩
theorem OwnEntry.bit_3_c : OwnEntry.Statement (.bit_3_c) :=
  ⟨0, 0, (by with_unfolding_all rfl : tableEntry true 0x59 0 0 = .bit_3_c)⟩
theorem OwnEntry.bit_3_d : OwnEntry.Statement (.bit_3_d) :=
  ⟨0, 0, (by with_unfolding_all rfl : tableEntry true 0x5A 0 0 = .bit_3_d)⟩
theorem OwnEntry.bit_3_e : OwnEntry.Statement (.bit_3_e) :=
  ⟨0, 0, (by with_unfolding_all rfl : tableEntry true 0x5B 0 0 = .bit_3_e)⟩
theorem OwnEntry.bit_3_h : OwnEntry.Statement (.bit_3_h) :=
  ⟨0, 0, (by with_unfolding_all rfl : tableEntry true 0x5C 0 0 = .bit_3_h)⟩
theorem OwnEntry.bit_3_l : OwnEntry.Statement (.bit_3_l) :=
  ⟨0, 0, (by with_unfolding_all rfl : tableEntry true 0x5D 0 0 = .bit_3_l)⟩
theorem OwnEntry.bit_3_at_hl : OwnEntry.Statement (.bit_3_at_hl) :=
  ⟨0, 0, (by with_unfolding_all rfl : tableEntry true 0x5E 0 0 = .bit_3_at_hl)⟩
theorem OwnEntry.bit_3_a : OwnEntry.Statement (.bit_3_a) :=
  ⟨0, 0, (by with_unfolding_all rfl : tableEntry true 0x5F 0 0 = .bit_3_a)⟩
theorem OwnEntry.bit_4_b : OwnEntry.Statement (.bit_4_b) :=
  ⟨0, 0, (by with_unfolding_all rfl : tableEntry true 0x60 0 0 = .bit_4_b)⟩
theorem OwnEntry.bit_4_c : OwnEntry.Statement (.bit_4_c) :=
  ⟨0, 0, (by with_unfolding_all rfl : tableEntry true 0x61 0 0 = .bit_4_c)⟩
theorem OwnEntry.bit_4_d : OwnEntry.Statement (.bit_4_d) :=
  ⟨0, 0, (by with_unfolding_all rfl : tableEntry true 0x62 0 0 = .bit_4_d)⟩
theorem OwnEntry.bit_4_e : OwnEntry.Statement (.bit_4_e) :=
  ⟨0, 0, (by with_unfolding_all rfl : tableEntry true 0x63 0 0 = .bit_4_e)⟩
theorem OwnEntry.bit_4_h : OwnEntry.Statement (.bit_4_h) :=
  ⟨0, 0, (by with_unfolding_all rfl : tableEntry true 0x64 0 0 = .bit_4_h)⟩
theorem OwnEntry.bit_4_l : OwnEntry.Statement (.bit_4_l) :=
  ⟨0, 0, (by with_unfolding_all rfl : tableEntry true 0x65 0 0 = .bit_4_l)⟩
theorem OwnEntry.bit_4_at_hl : OwnEntry.Statement (.bit_4_at_hl) :=
  ⟨0, 0, (by with_unfolding_all rfl : tableEntry true 0x66 0 0 = .bit_4_at_hl)⟩
theorem OwnEntry.bit_4_a : OwnEntry.Statement (.bit_4_a) :=
  ⟨0, 0, (by with_unfolding_all rfl : tableEntry true 0x67 0 0 = .bit_4_a)⟩
theorem OwnEntry.bit_5_b : OwnEntry.Statement (.bit_5_b) :=
  ⟨0, 0, (by with_unfolding_all rfl : tableEntry true 0x68 0 0 = .bit_5_b)⟩
theorem OwnEntry.bit_5_c : OwnEntry.Statement (.bit_5_c) :=
  ⟨0, 0, (by with_unfolding_all rfl : tableEntry true 0x69 0 0 = .bit_5_c)⟩
theorem OwnEntry.bit_5_d : OwnEntry.Statement (.bit_5_d) :=
  ⟨0, 0, (by with_unfolding_all rfl : tableEntry true 0x6A 0 0 = .bit_5_d)⟩
theorem OwnEntry.bit_5_e : OwnEntry.Statement (.bit_5_e) :=
  ⟨0, 0, (by with_unfolding_all rfl : tableEntry true 0x6B 0 0 = .bit_5_e)⟩
theorem OwnEntry.bit_5_h : OwnEntry.Statement (.bit_5_h) :=
  ⟨0, 0, (by with_unfolding_all rfl : tableEntry true 0x6C 0 0 = .bit_5_h)⟩
theorem OwnEntry.bit_5_l : OwnEntry.Statement (.bit_5_l) :=
  ⟨0, 0, (by with_unfolding_all rfl : tableEntry true 0x6D 0 0 = .bit_5_l)⟩
theorem OwnEntry.bit_5_at_hl : OwnEntry.Statement (.bit_5_at_hl) :=
  ⟨0, 0, (by with_unfolding_all rfl : tableEntry true 0x6E 0 0 = .bit_5_at_hl)⟩
theorem OwnEntry.bit_5_a : OwnEntry.Statement (.bit_5_a) :=
  ⟨0, 0, (by with_unfolding_all rfl : tableEntry true 0x6F 0 0 = .bit_5_a)⟩
theorem OwnEntry.bit_6_b : OwnEntry.Statement (.bit_6_b) :=
  ⟨0, 0, (by with_unfolding_all rfl : tableEntry true 0x70 0 0 = .bit_6_b)⟩
theorem OwnEntry.bit_6_c : OwnEntry.Statement (.bit_6_c) :=
  ⟨0, 0, (by with_unfolding_all rfl : tableEntry true 0x71 0 0 = .bit_6_c)⟩
theorem OwnEntry.bit_6_d : OwnEntry.Statement (.bit_6_d) :=
  ⟨0, 0, (by with_unfolding_all rfl : tableEntry true 0x72 0 0 = .bit_6_d)⟩
theorem OwnEntry.bit_6_e : OwnEntry.Statement (.bit_6_e) :=
  ⟨0, 0, (by with_unfolding_all rfl : tableEntry true 0x73 0 0 = .bit_6_e)⟩
theorem OwnEntry.bit_6_h : OwnEntry.Statement (.bit_6_h) :=
  ⟨0, 0, (by with_unfolding_all rfl : tableEntry true 0x74 0 0 = .bit_6_h)⟩
theorem OwnEntry.bit_6_l : OwnEntry.Statement (.bit_6_l) :=
  ⟨0, 0, (by with_unfolding_all rfl : tableEntry true 0x75 0 0 = .bit_6_l)⟩
theorem OwnEntry.bit_6_at_hl : OwnEntry.Statement (.bit_6_at_hl) :=
  ⟨0, 0, (by with_unfolding_all rfl : tableEntry true 0x76 0 0 = .bit_6_at_hl)⟩
theorem OwnEntry.bit_6_a : OwnEntry.Statement (.bit_6_a) :=
  ⟨0, 0, (by with_unfolding_all rfl : tableEntry true 0x77 0 0 = .bit_6_a)⟩
theorem OwnEntry.bit_7_b : OwnEntry.Statement (.bit_7_b) :=
  ⟨0, 0, (by with_unfolding_all rfl : tableEntry true 0x78 0 0 = .bit_7_b)⟩
theorem OwnEntry.bit_7_c : OwnEntry.Statement (.bit_7_c) :=
  ⟨0, 0, (by with_unfolding_all rfl : tableEntry true 0x79 0 0 = .bit_7_c)⟩
theorem OwnEntry.bit_7_d : OwnEntry.Statement (.bit_7_d) :=
  ⟨0, 0, (by with_unfolding_all rfl : tableEntry true 0x7A 0 0 = .bit_7_d)⟩
theorem OwnEntry.bit_7_e : OwnEntry.Statement (.bit_7_e) :=
  ⟨0, 0, (by with_unfolding_all rfl : tableEntry true 0x7B 0 0 = .bit_7_e)⟩
theorem OwnEntry.bit_7_h : OwnEntry.Statement (.bit_7_h) :=
  ⟨0, 0, (by with_unfolding_all rfl : tableEntry true 0x7C 0 0 = .bit_7_h)⟩
theorem OwnEntry.bit_7_l : OwnEntry.Statement (.bit_7_l) :=
  ⟨0, 0, (by with_unfolding_all rfl : tableEntry true 0x7D 0 0 = .bit_7_l)⟩
theorem OwnEntry.bit_7_at_hl : OwnEntry.Statement (.bit_7_at_hl) :=
  ⟨0, 0, (by with_unfolding_all rfl : tableEntry true 0x7E 0 0 = .bit_7_at_hl)⟩
theorem OwnEntry.bit_7_a : OwnEntry.Statement (.bit_7_a) :=
  ⟨0, 0, (by with_unfolding_all rfl : tableEntry true 0x7F 0 0 = .bit_7_a)⟩
theorem OwnEntry.res_0_b : OwnEntry.Statement (.res_0_b) :=
  ⟨0, 0, (by with_unfolding_all rfl : tableEntry true 0x80 0 0 = .res_0_b)⟩
theorem OwnEntry.res_0_c : OwnEntry.Statement (.res_0_c) :=
  ⟨0, 0, (by with_unfolding_all rfl : tableEntry true 0x81 0 0 = .res_0_c)⟩
theorem OwnEntry.res_0_d : OwnEntry.Statement (.res_0_d) :=
  ⟨0, 0, (by with_unfolding_all rfl : tableEntry true 0x82 0 0 = .res_0_d)⟩
theorem OwnEntry.res_0_e : OwnEntry.Statement (.res_0_e) :=
  ⟨0, 0, (by with_unfolding_all rfl : tableEntry true 0x83 0 0 = .res_0_e)⟩
theorem OwnEntry.res_0_h : OwnEntry.Statement (.res_0_h) :=
  ⟨0, 0, (by with_unfolding_all rfl : tableEntry true 0x84 0 0 = .res_0_h)⟩
theorem OwnEntry.res_0_l : OwnEntry.Statement (.res_0_l) :=
  ⟨0, 0, (by with_unfolding_all rfl : tableEntry true 0x85 0 0 = .res_0_l)⟩
theorem OwnEntry.res_0_at_hl : OwnEntry.Statement (.res_0_at_hl) :=
  ⟨0, 0, (by with_unfolding_all rfl : tableEntry true 0x86 0 0 = .res_0_at_hl)⟩
theorem OwnEntry.res_0_a : OwnEntry.Statement (.res_0_a) :=
  ⟨0, 0, (by with_unfolding_all rfl : tableEntry true 0x87 0 0 = .res_0_a)⟩
theorem OwnEntry.res_1_b : OwnEntry.Statement (.res_1_b) :=
  ⟨0, 0, (by with_unfolding_all rfl : tableEntry true 0x88 0 0 = .res_1_b)⟩
theorem OwnEntry.res_1_c : OwnEntry.Statement (.res_1_c) :=
  ⟨0, 0, (by with_unfolding_all rfl : tableEntry true 0x89 0 0 = .res_1_c)⟩
theorem OwnEntry.res_1_d : OwnEntry.Statement (.res_1_d) :=
  ⟨0, 0, (by with_unfolding_all rfl : tableEntry true 0x8A 0 0 = .res_1_d)⟩
theorem OwnEntry.res_1_e : OwnEntry.Statement (.res_1_e) :=
  ⟨0, 0, (by with_unfolding_all rfl : tableEntry true 0x8B 0 0 = .res_1_e)⟩
theorem OwnEntry.res_1_h : OwnEntry.Statement (.res_1_h) :=
  ⟨0, 0, (by with_unfolding_all rfl : tableEntry true 0x8C 0 0 = .res_1_h)⟩
theorem OwnEntry.res_1_l : OwnEntry.Statement (.res_1_l) :=
  ⟨0, 0, (by with_unfolding_all rfl : tableEntry true 0x8D 0 0 = .res_1_l)⟩
theorem OwnEntry.res_1_at_hl : OwnEntry.Statement (.res_1_at_hl) :=
  ⟨0, 0, (by with_unfolding_all rfl : tableEntry true 0x8E 0 0 = .res_1_at_hl)⟩
theorem OwnEntry.res_1_a : OwnEntry.Statement (.res_1_a) :=
  ⟨0, 0, (by with_unfolding_all rfl : tableEntry true 0x8F 0 0 = .res_1_a)⟩
theorem OwnEntry.res_2_b : OwnEntry.Statement (.res_2_b) :=
  ⟨0, 0, (by with_unfolding_all rfl : tableEntry true 0x90 0 0 = .res_2_b)⟩
theorem OwnEntry.res_2_c : OwnEntry.Statement (.res_2_c) :=
  ⟨0, 0, (by with_unfolding_all rfl : tableEntry true 0x91 0 0 = .res_2_c)⟩
theorem OwnEntry.res_2_d : OwnEntry.Statement (.res_2_d) :=
  ⟨0, 0, (by with_unfolding_all rfl : tableEntry true 0x92 0 0 = .res_2_d)⟩
theorem OwnEntry.res_2_e : OwnEntry.Statement (.res_2_e) :=
  ⟨0, 0, (by with_unfolding_all rfl : tableEntry true 0x93 0 0 = .res_2_e)⟩
theorem OwnEntry.res_2_h : OwnEntry.Statement (.res_2_h) :=
  ⟨0, 0, (by with_unfolding_all rfl : tableEntry true 0x94 0 0 = .res_2_h)⟩
theorem OwnEntry.res_2_l : OwnEntry.Statement (.res_2_l) :=
  ⟨0, 0, (by with_unfolding_all rfl : tableEntry true 0x95 0 0 = .res_2_l)⟩
theorem OwnEntry.res_2_at_hl : OwnEntry.Statement (.res_2_at_hl) :=
  ⟨0, 0, (by with_unfolding_all rfl : tableEntry true 0x96 0 0 = .res_2_at_hl)⟩
theorem OwnEntry.res_2_a : OwnEntry.Statement (.res_2_a) :=
  ⟨0, 0, (by with_unfolding_all rfl : tableEntry true 0x97 0 0 = .res_2_a)⟩
theorem OwnEntry.res_3_b : OwnEntry.Statement (.res_3_b) :=
  ⟨0, 0, (by with_unfolding_all rfl : tableEntry true 0x98 0 0 = .res_3_b)⟩
theorem OwnEntry.res_3_c : OwnEntry.Statement (.res_3_c) :=
  ⟨0, 0, (by with_unfolding_all rfl : tableEntry true 0x99 0 0 = .res_3_c)⟩
theorem OwnEntry.res_3_d : OwnEntry.Statement (.res_3_d) :=
  ⟨0, 0, (by with_unfolding_all rfl : tableEntry true 0x9A 0 0 = .res_3_d)⟩
theorem OwnEntry.res_3_e : OwnEntry.Statement (.res_3_e) :=
  ⟨0, 0, (by with_unfolding_all rfl : tableEntry true 0x9B 0 0 = .res_3_e)⟩
theorem OwnEntry.res_3_h : OwnEntry.Statement (.res_3_h) :=
  ⟨0, 0, (by with_unfolding_all rfl : tableEntry true 0x9C 0 0 = .res_3_h)⟩
theorem OwnEntry.res_3_l : OwnEntry.Statement (.res_3_l) :=
  ⟨0, 0, (by with_unfolding_all rfl : tableEntry true 0x9D 0 0 = .res_3_l)⟩
theorem OwnEntry.res_3_at_hl : OwnEntry.Statement (.res_3_at_hl) :=
  ⟨0, 0, (by with_unfolding_all rfl : tableEntry true 0x9E 0 0 = .res_3_at_hl)⟩
theorem OwnEntry.res_3_a : OwnEntry.Statement (.res_3_a) :=
  ⟨0, 0, (by with_unfolding_all rfl : tableEntry true 0x9F 0 0 = .res_3_a)⟩
theorem OwnEntry.res_4_b : OwnEntry.Statement (.res_4_b) :=
  ⟨0, 0, (by with_unfolding_all rfl : tableEntry true 0xA0 0 0 = .res_4_b)⟩
theorem OwnEntry.res_4_c : OwnEntry.Statement (.res_4_c) :=
  ⟨0, 0, (by with_unfolding_all rfl : tableEntry true 0xA1 0 0 = .res_4_c)⟩
theorem OwnEntry.res_4_d : OwnEntry.Statement (.res_4_d) :=
  ⟨0, 0, (by with_unfolding_all rfl : tableEntry true 0xA2 0 0 = .res_4_d)⟩
theorem OwnEntry.res_4_e : OwnEntry.Statement (.res_4_e) :=
  ⟨0, 0, (by with_unfolding_all rfl : tableEntry true 0xA3 0 0 = .res_4_e)⟩
theorem OwnEntry.res_4_h : OwnEntry.Statement (.res_4_h) :=
  ⟨0, 0, (by with_unfolding_all rfl : tableEntry true 0xA4 0 0 = .res_4_h)⟩
theorem OwnEntry.res_4_l : OwnEntry.Statement (.res_4_l) :=
  ⟨0, 0, (by with_unfolding_all rfl : tableEntry true 0xA5 0 0 = .res_4_l)⟩
theorem OwnEntry.res_4_at_hl : OwnEntry.Statement (.res_4_at_hl) :=
  ⟨0, 0, (by with_unfolding_all rfl : tableEntry true 0xA6 0 0 = .res_4_at_hl)⟩
theorem OwnEntry.res_4_a : OwnEntry.Statement (.res_4_a) :=
  ⟨0, 0, (by with_unfolding_all rfl : tableEntry true 0xA7 0 0 = .res_4_a)⟩
theorem OwnEntry.res_5_b : OwnEntry.Statement (.res_5_b) :=
  ⟨0, 0, (by with_unfolding_all rfl : tableEntry true 0xA8 0 0 = .res_5_b)⟩
theorem OwnEntry.res_5_c : OwnEntry.Statement (.res_5_c) :=
  ⟨0, 0, (by with_unfolding_all rfl : tableEntry true 0xA9 0 0 = .res_5_c)⟩
theorem OwnEntry.res_5_d : OwnEntry.Statement (.res_5_d) :=
  ⟨0, 0, (by with_unfolding_all rfl : tableEntry true 0xAA 0 0 = .res_5_d)⟩
theorem OwnEntry.res_5_e : OwnEntry.Statement (.res_5_e) :=
  ⟨0, 0, (by with_unfolding_all rfl : tableEntry true 0xAB 0 0 = .res_5_e)⟩
theorem OwnEntry.res_5_h : OwnEntry.Statement (.res_5_h) :=
  ⟨0, 0, (by with_unfolding_all rfl : tableEntry true 0xAC 0 0 = .res_5_h)⟩
theorem OwnEntry.res_5_l : OwnEntry.Statement (.res_5_l) :=
  ⟨0, 0, (by with_unfolding_all rfl : tableEntry true 0xAD 0 0 = .res_5_l)⟩
theorem OwnEntry.res_5_at_hl : OwnEntry.Statement (.res_5_at_hl) :=
  ⟨0, 0, (by with_unfolding_all rfl : tableEntry true 0xAE 0 0 = .res_5_at_hl)⟩
theorem OwnEntry.res_5_a : OwnEntry.Statement (.res_5_a) :=
  ⟨0, 0, (by with_unfolding_all rfl : tableEntry true 0xAF 0 0 = .res_5_a)⟩
theorem OwnEntry.res_6_b : OwnEntry.Statement (.res_6_b) :=
  ⟨0, 0, (by with_unfolding_all rfl : tableEntry true 0xB0 0 0 = .res_6_b)⟩
theorem OwnEntry.res_6_c : OwnEntry.Statement (.res_6_c) :=
  ⟨0, 0, (by with_unfolding_all rfl : tableEntry true 0xB1 0 0 = .res_6_c)⟩
theorem OwnEntry.res_6_d : OwnEntry.Statement (.res_6_d) :=
  ⟨0, 0, (by with_unfolding_all rfl : tableEntry true 0xB2 0 0 = .res_6_d)⟩
theorem OwnEntry.res_6_e : OwnEntry.Statement (.res_6_e) :=
  ⟨0, 0, (by with_unfolding_all rfl : tableEntry true 0xB3 0 0 = .res_6_e)⟩
theorem OwnEntry.res_6_h : OwnEntry.Statement (.res_6_h) :=
  ⟨0, 0, (by with_unfolding_all rfl : tableEntry true 0xB4 0 0 = .res_6_h)⟩
theorem OwnEntry.res_6_l : OwnEntry.Statement (.res_6_l) :=
  ⟨0, 0, (by with_unfolding_all rfl : tableEntry true 0xB5 0 0 = .res_6_l)⟩
theorem OwnEntry.res_6_at_hl : OwnEntry.Statement (.res_6_at_hl) :=
  ⟨0, 0, (by with_unfolding_all rfl : tableEntry true 0xB6 0 0 = .res_6_at_hl)⟩
theorem OwnEntry.res_6_a : OwnEntry.Statement (.res_6_a) :=
  ⟨0, 0, (by with_unfolding_all rfl : tableEntry true 0xB7 0 0 = .res_6_a)⟩
theorem OwnEntry.res_7_b : OwnEntry.Statement (.res_7_b) :=
  ⟨0, 0, (by with_unfolding_all rfl : tableEntry true 0xB8 0 0 = .res_7_b)⟩
theorem OwnEntry.res_7_c : OwnEntry.Statement (.res_7_c) :=
  ⟨0, 0, (by with_unfolding_all rfl : tableEntry true 0xB9 0 0 = .res_7_c)⟩
theorem OwnEntry.res_7_d : OwnEntry.Statement (.res_7_d) :=
  ⟨0, 0, (by with_unfolding_all rfl : tableEntry true 0xBA 0 0 = .res_7_d)⟩
theorem OwnEntry.res_7_e : OwnEntry.Statement (.res_7_e) :=
  ⟨0, 0, (by with_unfolding_all rfl : tableEntry true 0xBB 0 0 = .res_7_e)⟩
theorem OwnEntry.res_7_h : OwnEntry.Statement (.res_7_h) :=
  ⟨0, 0, (by with_unfolding_all rfl : tableEntry true 0xBC 0 0 = .res_7_h)⟩
theorem OwnEntry.res_7_l : OwnEntry.Statement (.res_7_l) :=
  ⟨0, 0, (by with_unfolding_all rfl : tableEntry true 0xBD 0 0 = .res_7_l)⟩
theorem OwnEntry.res_7_at_hl : OwnEntry.Statement (.res_7_at_hl) :=
  ⟨0, 0, (by with_unfolding_all rfl : tableEntry true 0xBE 0 0 = .res_7_at_hl)⟩
theorem OwnEntry.res_7_a : OwnEntry.Statement (.res_7_a) :=
  ⟨0, 0, (by with_unfolding_all rfl : tableEntry true 0xBF 0 0 = .res_7_a)⟩
theorem OwnEntry.set_0_b : OwnEntry.Statement (.set_0_b) :=
  ⟨0, 0, (by with_unfolding_all rfl : tableEntry true 0xC0 0 0 = .set_0_b)⟩
theorem OwnEntry.set_0_c : OwnEntry.Statement (.set_0_c) :=
  ⟨0, 0, (by with_unfolding_all rfl : tableEntry true 0xC1 0 0 = .set_0_c)⟩
theorem OwnEntry.set_0_d : OwnEntry.Statement (.set_0_d) :=
  ⟨0, 0, (by with_unfolding_all rfl : tableEntry true 0xC2 0 0 = .set_0_d)⟩
theorem OwnEntry.set_0_e : OwnEntry.Statement (.set_0_e) :=
  ⟨0, 0, (by with_unfolding_all rfl : tableEntry true 0xC3 0 0 = .set_0_e)⟩
theorem OwnEntry.set_0_h : OwnEntry.Statement (.set_0_h) :=
  ⟨0, 0, (by with_unfolding_all rfl : tableEntry true 0xC4 0 0 = .set_0_h)⟩
theorem OwnEntry.set_0_l : OwnEntry.Statement (.set_0_l) :=
  ⟨0, 0, (by with_unfolding_all rfl : tableEntry true 0xC5 0 0 = .set_0_l)⟩
theorem OwnEntry.set_0_at_hl : OwnEntry.Statement (.set_0_at_hl) :=
  ⟨0, 0, (by with_unfolding_all rfl : tableEntry true 0xC6 0 0 = .set_0_at_hl)⟩
theorem OwnEntry.set_0_a : OwnEntry.Statement (.set_0_a) :=
  ⟨0, 0, (by with_unfolding_all rfl : tableEntry true 0xC7 0 0 = .set_0_a)⟩
theorem OwnEntry.set_1_b : OwnEntry.Statement (.set_1_b) :=
  ⟨0, 0, (by with_unfolding_all rfl : tableEntry true 0xC8 0 0 = .set_1_b)⟩
theorem OwnEntry.set_1_c : OwnEntry.Statement (.set_1_c) :=
  ⟨0, 0, (by with_unfolding_all rfl : tableEntry true 0xC9 0 0 = .set_1_c)⟩
theorem OwnEntry.set_1_d : OwnEntry.Statement (.set_1_d) :=
  ⟨0, 0, (by with_unfolding_all rfl : tableEntry true 0xCA 0 0 = .set_1_d)⟩
theorem OwnEntry.set_1_e : OwnEntry.Statement (.set_1_e) :=
  ⟨0, 0, (by with_unfolding_all rfl : tableEntry true 0xCB 0 0 = .set_1_e)⟩
theorem OwnEntry.set_1_h : OwnEntry.Statement (.set_1_h) :=
  ⟨0, 0, (by with_unfolding_all rfl : tableEntry true 0xCC 0 0 = .set_1_h)⟩
theorem OwnEntry.set_1_l : OwnEntry.Statement (.set_1_l) :=
  ⟨0, 0, (by with_unfolding_all rfl : tableEntry true 0xCD 0 0 = .set_1_l)⟩
theorem OwnEntry.set_1_at_hl : OwnEntry.Statement (.set_1_at_hl) :=
  ⟨0, 0, (by with_unfolding_all rfl : tableEntry true 0xCE 0 0 = .set_1_at_hl)⟩
theorem OwnEntry.set_1_a : OwnEntry.Statement (.set_1_a) :=
  ⟨0, 0, (by with_unfolding_all rfl : tableEntry true 0xCF 0 0 = .set_1_a)⟩
theorem OwnEntry.set_2_b : OwnEntry.Statement (.set_2_b) :=
  ⟨0, 0, (by with_unfolding_all rfl : tableEntry true 0xD0 0 0 = .set_2_b)⟩
theorem OwnEntry.set_2_c : OwnEntry.Statement (.set_2_c) :=
  ⟨0, 0, (by with_unfolding_all rfl : tableEntry true 0xD1 0 0 = .set_2_c)⟩
theorem OwnEntry.set_2_d : OwnEntry.Statement (.set_2_d) :=
  ⟨0, 0, (by with_unfolding_all rfl : tableEntry true 0xD2 0 0 = .set_2_d)⟩
theorem OwnEntry.set_2_e : OwnEntry.Statement (.set_2_e) :=
  ⟨0, 0, (by with_unfolding_all rfl : tableEntry true 0xD3 0 0 = .set_2_e)⟩
theorem OwnEntry.set_2_h : OwnEntry.Statement (.set_2_h) :=
  ⟨0, 0, (by with_unfolding_all rfl : tableEntry true 0xD4 0 0 = .set_2_h)⟩
theorem OwnEntry.set_2_l : OwnEntry.Statement (.set_2_l) :=
  ⟨0, 0, (by with_unfolding_all rfl : tableEntry true 0xD5 0 0 = .set_2_l)⟩
theorem OwnEntry.set_2_at_hl : OwnEntry.Statement (.set_2_at_hl) :=
  ⟨0, 0, (by with_unfolding_all rfl : tableEntry true 0xD6 0 0 = .set_2_at_hl)⟩
theorem OwnEntry.set_2_a : OwnEntry.Statement (.set_2_a) :=
  ⟨0, 0, (by with_unfolding_all rfl : tableEntry true 0xD7 0 0 = .set_2_a)⟩
theorem OwnEntry.set_3_b : OwnEntry.Statement (.set_3_b) :=
  ⟨0, 0, (by with_unfolding_all rfl : tableEntry true 0xD8 0 0 = .set_3_b)⟩
theorem OwnEntry.set_3_c : OwnEntry.Statement (.set_3_c) :=
  ⟨0, 0, (by with_unfolding_all rfl : tableEntry true 0xD9 0 0 = .set_3_c)⟩
theorem OwnEntry.set_3_d : OwnEntry.Statement (.set_3_d) :=
  ⟨0, 0, (by with_unfolding_all rfl : tableEntry true 0xDA 0 0 = .set_3_d)⟩
theorem OwnEntry.set_3_e : OwnEntry.Statement (.set_3_e) :=
  ⟨0, 0, (by with_unfolding_all rfl : tableEntry true 0xDB 0 0 = .set_3_e)⟩
theorem OwnEntry.set_3_h : OwnEntry.Statement (.set_3_h) :=
  ⟨0, 0, (by with_unfolding_all rfl : tableEntry true 0xDC 0 0 = .set_3_h)⟩
theorem OwnEntry.set_3_l : OwnEntry.Statement (.set_3_l) :=
  ⟨0, 0, (by with_unfolding_all rfl : tableEntry true 0xDD 0 0 = .set_3_l)⟩
theorem OwnEntry.set_3_at_hl : OwnEntry.Statement (.set_3_at_hl) :=
  ⟨0, 0, (by with_unfolding_all rfl : tableEntry true 0xDE 0 0 = .set_3_at_hl)⟩
theorem OwnEntry.set_3_a : OwnEntry.Statement (.set_3_a) :=
  ⟨0, 0, (by with_unfolding_all rfl : tableEntry true 0xDF 0 0 = .set_3_a)⟩
theorem OwnEntry.set_4_b : OwnEntry.Statement (.set_4_b) :=
  ⟨0, 0, (by with_unfolding_all rfl : tableEntry true 0xE0 0 0 = .set_4_b)⟩
theorem OwnEntry.set_4_c : OwnEntry.Statement (.set_4_c) :=
  ⟨0, 0, (by with_unfolding_all rfl : tableEntry true 0xE1 0 0 = .set_4_c)⟩
theorem OwnEntry.set_4_d : OwnEntry.Statement (.set_4_d) :=
  ⟨0, 0, (by with_unfolding_all rfl : tableEntry true 0xE2 0 0 = .set_4_d)⟩
theorem OwnEntry.set_4_e : OwnEntry.Statement (.set_4_e) :=
  ⟨0, 0, (by with_unfolding_all rfl : tableEntry true 0xE3 0 0 = .set_4_e)⟩
theorem OwnEntry.set_4_h : OwnEntry.Statement (.set_4_h) :=
  ⟨0, 0, (by with_unfolding_all rfl : tableEntry true 0xE4 0 0 = .set_4_h)⟩
theorem OwnEntry.set_4_l : OwnEntry.Statement (.set_4_l) :=
  ⟨0, 0, (by with_unfolding_all rfl : tableEntry true 0xE5 0 0 = .set_4_l)⟩
theorem OwnEntry.set_4_at_hl : OwnEntry.Statement (.set_4_at_hl) :=
  ⟨0, 0, (by with_unfolding_all rfl : tableEntry true 0xE6 0 0 = .set_4_at_hl)⟩
theorem OwnEntry.set_4_a : OwnEntry.Statement (.set_4_a) :=
  ⟨0, 0, (by with_unfolding_all rfl : tableEntry true 0xE7 0 0 = .set_4_a)⟩
theorem OwnEntry.set_5_b : OwnEntry.Statement (.set_5_b) :=
  ⟨0, 0, (by with_unfolding_all rfl : tableEntry true 0xE8 0 0 = .set_5_b)⟩
theorem OwnEntry.set_5_c : OwnEntry.Statement (.set_5_c) :=
  ⟨0, 0, (by with_unfolding_all rfl : tableEntry true 0xE9 0 0 = .set_5_c)⟩
theorem OwnEntry.set_5_d : OwnEntry.Statement (.set_5_d) :=
  ⟨0, 0, (by with_unfolding_all rfl : tableEntry true 0xEA 0 0 = .set_5_d)⟩
theorem OwnEntry.set_5_e : OwnEntry.Statement (.set_5_e) :=
  ⟨0, 0, (by with_unfolding_all rfl : tableEntry true 0xEB 0 0 = .set_5_e)⟩
theorem OwnEntry.set_5_h : OwnEntry.Statement (.set_5_h) :=
  ⟨0, 0, (by with_unfolding_all rfl : tableEntry true 0xEC 0 0 = .set_5_h)⟩
theorem OwnEntry.set_5_l : OwnEntry.Statement (.set_5_l) :=
  ⟨0, 0, (by with_unfolding_all rfl : tableEntry true 0xED 0 0 = .set_5_l)⟩
theorem OwnEntry.set_5_at_hl : OwnEntry.Statement (.set_5_at_hl) :=
  ⟨0, 0, (by with_unfolding_all rfl : tableEntry true 0xEE 0 0 = .set_5_at_hl)⟩
theorem OwnEntry.set_5_a : OwnEntry.Statement (.set_5_a) :=
  ⟨0, 0, (by with_unfolding_all rfl : tableEntry true 0xEF 0 0 = .set_5_a)⟩
theorem OwnEntry.set_6_b : OwnEntry.Statement (.set_6_b) :=
  ⟨0, 0, (by with_unfolding_all rfl : tableEntry true 0xF0 0 0 = .set_6_b)⟩
theorem OwnEntry.set_6_c : OwnEntry.Statement (.set_6_c) :=
  ⟨0, 0, (by with_unfolding_all rfl : tableEntry true 0xF1 0 0 = .set_6_c)⟩
theorem OwnEntry.set_6_d : OwnEntry.Statement (.set_6_d) :=
  ⟨0, 0, (by with_unfolding_all rfl : tableEntry true 0xF2 0 0 = .set_6_d)⟩
theorem OwnEntry.set_6_e : OwnEntry.Statement (.set_6_e) :=
  ⟨0, 0, (by with_unfolding_all rfl : tableEntry true 0xF3 0 0 = .set_6_e)⟩
theorem OwnEntry.set_6_h : OwnEntry.Statement (.set_6_h) :=
  ⟨0, 0, (by with_unfolding_all rfl : tableEntry true 0xF4 0 0 = .set_6_h)⟩
theorem OwnEntry.set_6_l : OwnEntry.Statement (.set_6_l) :=
  ⟨0, 0, (by with_unfolding_all rfl : tableEntry true 0xF5 0 0 = .set_6_l)⟩
theorem OwnEntry.set_6_at_hl : OwnEntry.Statement (.set_6_at_hl) :=
  ⟨0, 0, (by with_unfolding_all rfl : tableEntry true 0xF6 0 0 = .set_6_at_hl)⟩
theorem OwnEntry.set_6_a : OwnEntry.Statement (.set_6_a) :=
  ⟨0, 0, (by with_unfolding_all rfl : tableEntry true 0xF7 0 0 = .set_6_a)⟩
theorem OwnEntry.set_7_b : OwnEntry.Statement (.set_7_b) :=
  ⟨0, 0, (by with_unfolding_all rfl : tableEntry true 0xF8 0 0 = .set_7_b)⟩
theorem OwnEntry.set_7_c : OwnEntry.Statement (.set_7_c) :=
  ⟨0, 0, (by with_unfolding_all rfl : tableEntry true 0xF9 0 0 = .set_7_c)⟩
theorem OwnEntry.set_7_d : OwnEntry.Statement (.set_7_d) :=
  ⟨0, 0, (by with_unfolding_all rfl : tableEntry true 0xFA 0 0 = .set_7_d)⟩
theorem OwnEntry.set_7_e : OwnEntry.Statement (.set_7_e) :=
  ⟨0, 0, (by with_unfolding_all rfl : tableEntry true 0xFB 0 0 = .set_7_e)⟩
theorem OwnEntry.set_7_h : OwnEntry.Statement (.set_7_h) :=
  ⟨0, 0, (by with_unfolding_all rfl : tableEntry true 0xFC 0 0 = .set_7_h)⟩
theorem OwnEntry.set_7_l : OwnEntry.Statement (.set_7_l) :=
  ⟨0, 0, (by with_unfolding_all rfl : tableEntry true 0xFD 0 0 = .set_7_l)⟩
theorem OwnEntry.set_7_at_hl : OwnEntry.Statement (.set_7_at_hl) :=
  ⟨0, 0, (by with_unfolding_all rfl : tableEntry true 0xFE 0 0 = .set_7_at_hl)⟩
theorem OwnEntry.set_7_a : OwnEntry.Statement (.set_7_a) :=
  ⟨0, 0, (by with_unfolding_all rfl : tableEntry true 0xFF 0 0 = .set_7_a)⟩

end Sys2Proof.Laws
end

