-- ==== Sys2Proof/Laws/Exec.lean ====
section
/-! SUPPORT. Every meaning in one equation: `exec` of an instruction is the state `Form.post` of its form. A
statement about `exec` is proved from here form by form, without looking into a meaning. -/

namespace Sys2Proof

namespace Machine

/-- Accumulator or location and flags after an ALU operation. -/
def State.setAF (s : State) (x : Byte × Flags) : State := (s.setReg .a x.1).setFlags x.2

/-- A location and the flags written. -/
def State.putF (s : State) (l : Loc8) (x : Byte × Flags) : State := (l.put x.1 s).setFlags x.2

end Machine

open Machine

/-- The state after an instruction of a form: the meaning of the form's rule. -/
def Form.post : Form → State → State
  | .ld dst src, s => (s.setReg dst.reg (src.value s)).advance src.length src.ticks
  | .ldToHl r, s => (s.write8 s.hl (s.reg r.reg)).advance 1 8
  | .ldHlImm n, s => (s.write8 s.hl n).advance 2 12
  | .ldABc, s => (s.setReg .a (s.read8 (s.pair .bc))).advance 1 8
  | .ldADe, s => (s.setReg .a (s.read8 (s.pair .de))).advance 1 8
  | .ldBcA, s => (s.write8 (s.pair .bc) (s.reg .a)).advance 1 8
  | .ldDeA, s => (s.write8 (s.pair .de) (s.reg .a)).advance 1 8
  | .ldANn nn, s => (s.setReg .a (s.read8 nn)).advance 3 16
  | .ldNnA nn, s => (s.write8 nn (s.reg .a)).advance 3 16
  | .ldhAN n, s => (s.setReg .a (s.read8 (highPageAddr n))).advance 2 12
  | .ldhNA n, s => (s.write8 (highPageAddr n) (s.reg .a)).advance 2 12
  | .ldhAC, s => (s.setReg .a (s.read8 (highPageAddr (s.reg .c)))).advance 1 8
  | .ldhCA, s => (s.write8 (highPageAddr (s.reg .c)) (s.reg .a)).advance 1 8
  | .ldHliA, s => ((s.write8 s.hl (s.reg .a)).setPair .hl (s.hl + 1)).advance 1 8
  | .ldAHli, s => ((s.setReg .a (s.read8 s.hl)).setPair .hl (s.hl + 1)).advance 1 8
  | .ldHldA, s => ((s.write8 s.hl (s.reg .a)).setPair .hl (s.hl + -1)).advance 1 8
  | .ldAHld, s => ((s.setReg .a (s.read8 s.hl)).setPair .hl (s.hl + -1)).advance 1 8
  | .ldWide rr nn, s => (s.setWide rr nn).advance 3 12
  | .ldNnSp nn, s => (s.write16 nn s.sp).advance 3 20
  | .ldSpHl, s => (s.setSp s.hl).advance 1 8
  | .ldHlSpE e, s => ((s.setPair .hl (addSp s.sp e).1).setFlags (addSp s.sp e).2).advance 2 12
  | .push p, s => (s.push16 (s.pair p)).advance 1 16
  | .pop p, s => (s.popDone.setPair p s.popValue).advance 1 12
  | .alu op src, s => (s.setAF (op.apply s.flags.c (s.reg .a) (src.value s))).advance src.length src.ticks
  | .inc x, s => (s.putF x (inc8 s.flags (x.value s))).advance 1 x.modifyTicks
  | .dec x, s => (s.putF x (dec8 s.flags (x.value s))).advance 1 x.modifyTicks
  | .daa, s => (s.setAF (daa8 s.flags (s.reg .a))).advance 1 4
  | .cpl, s => (s.setAF (s.reg .a ^^^ 0xFF, { s.flags with n := true, h := true })).advance 1 4
  | .scf, s => (s.setFlags ⟨s.flags.z, false, false, true⟩).advance 1 4
  | .ccf, s => (s.setFlags ⟨s.flags.z, false, false, !s.flags.c⟩).advance 1 4
  | .addHl rr, s =>
    ((s.setPair .hl (addHl16 s.flags s.hl (s.wide rr)).1).setFlags (addHl16 s.flags s.hl (s.wide rr)).2).advance 1 8
  | .incWide rr, s => (s.setWide rr (s.wide rr + 1)).advance 1 8
  | .decWide rr, s => (s.setWide rr (s.wide rr - 1)).advance 1 8
  | .addSpE e, s => ((s.setSp (addSp s.sp e).1).setFlags (addSp s.sp e).2).advance 2 16
  | .rlca, s => (s.setAF ((rlc8 (s.reg .a)).1, { (rlc8 (s.reg .a)).2 with z := false })).advance 1 4
  | .rla, s => (s.setAF ((rl8 s.flags.c (s.reg .a)).1, { (rl8 s.flags.c (s.reg .a)).2 with z := false })).advance 1 4
  | .rrca, s => (s.setAF ((rrc8 (s.reg .a)).1, { (rrc8 (s.reg .a)).2 with z := false })).advance 1 4
  | .rra, s => (s.setAF ((rr8 s.flags.c (s.reg .a)).1, { (rr8 s.flags.c (s.reg .a)).2 with z := false })).advance 1 4
  | .rot op x, s => (s.putF x (op.apply s.flags.c (x.value s))).advance 1 x.modifyTicks
  | .bit b x, s => (s.setFlags (bitTest s.flags b (x.value s))).advance 1 x.testTicks
  | .res b x, s => (x.put (res8 b (x.value s)) s).advance 1 x.modifyTicks
  | .set b x, s => (x.put (set8 b (x.value s)) s).advance 1 x.modifyTicks
  | .jp nn, s => s.goTo nn 16
  | .jpCc cc nn, s => if cc.holds s then s.goTo nn 16 else s.goTo (s.following 3) 12
  | .jpHl, s => s.goTo s.hl 4
  | .jr e, s => s.goTo (s.relativeTarget e) 12
  | .jrCc cc e, s => if cc.holds s then s.goTo (s.relativeTarget e) 12 else s.goTo (s.following 2) 8
  | .call nn, s => (s.push16 (s.following 3)).goTo nn 24
  | .callCc cc nn, s =>
    if cc.holds s then (s.push16 (s.following 3)).goTo nn 24 else s.goTo (s.following 3) 12
  | .ret, s => s.popDone.goTo s.popValue 16
  | .retCc cc, s => if cc.holds s then s.popDone.goTo s.popValue 20 else s.goTo (s.following 1) 8
  | .reti, s => s.returnFromInterrupt.addTicks 16
  | .rst y, s => (s.push16 (s.following 1)).goTo y.restart 16
  | .nop, s => s.advance 1 4
  | .halt, s => (s.setHalt true).advance 1 4
  | .stop _, s => s.advance 2 4
  | .di, s => (s.setIme false).advance 1 4
  | .ei, s => (s.setIme true).advance 1 4
  | .prefixCb, s => (s.setExt true).advance 1 4
  | .undef _, s => s.advance 1 4

namespace Laws

/-! ## `Form.post` form by form -/

@[simp] theorem post_ld (dst : OpReg) (src : Src8) (s : State) :
    Form.post (.ld dst src) s =
      (s.setReg dst.reg (src.value s)).advance src.length src.ticks := rfl
@[simp] theorem post_ldToHl (r : OpReg) (s : State) :
    Form.post (.ldToHl r) s =
      (s.write8 s.hl (s.reg r.reg)).advance 1 8 := rfl
@[simp] theorem post_ldHlImm (n : Byte) (s : State) :
    Form.post (.ldHlImm n) s =
      (s.write8 s.hl n).advance 2 12 := rfl
@[simp] theorem post_ldABc (s : State) :
    Form.post .ldABc s =
      (s.setReg .a (s.read8 (s.pair .bc))).advance 1 8 := rfl
@[simp] theorem post_ldADe (s : State) :
    Form.post .ldADe s =
      (s.setReg .a (s.read8 (s.pair .de))).advance 1 8 := rfl
@[simp] theorem post_ldBcA (s : State) :
    Form.post .ldBcA s =
      (s.write8 (s.pair .bc) (s.reg .a)).advance 1 8 := rfl
@[simp] theorem post_ldDeA (s : State) :
    Form.post .ldDeA s =
      (s.write8 (s.pair .de) (s.reg .a)).advance 1 8 := rfl
@[simp] theorem post_ldANn (nn : Word) (s : State) :
    Form.post (.ldANn nn) s =
      (s.setReg .a (s.read8 nn)).advance 3 16 := rfl
@[simp] theorem post_ldNnA (nn : Word) (s : State) :
    Form.post (.ldNnA nn) s =
      (s.write8 nn (s.reg .a)).advance 3 16 := rfl
@[simp] theorem post_ldhAN (n : Byte) (s : State) :
    Form.post (.ldhAN n) s =
      (s.setReg .a (s.read8 (highPageAddr n))).advance 2 12 := rfl
@[simp] theorem post_ldhNA (n : Byte) (s : State) :
    Form.post (.ldhNA n) s =
      (s.write8 (highPageAddr n) (s.reg .a)).advance 2 12 := rfl
@[simp] theorem post_ldhAC (s : State) :
    Form.post .ldhAC s =
      (s.setReg .a (s.read8 (highPageAddr (s.reg .c)))).advance 1 8 := rfl
@[simp] theorem post_ldhCA (s : State) :
    Form.post .ldhCA s =
      (s.write8 (highPageAddr (s.reg .c)) (s.reg .a)).advance 1 8 := rfl
@[simp] theorem post_ldHliA (s : State) :
    Form.post .ldHliA s =
      ((s.write8 s.hl (s.reg .a)).setPair .hl (s.hl + 1)).advance 1 8 := rfl
@[simp] theorem post_ldAHli (s : State) :
    Form.post .ldAHli s =
      ((s.setReg .a (s.read8 s.hl)).setPair .hl (s.hl + 1)).advance 1 8 := rfl
@[simp] theorem post_ldHldA (s : State) :
    Form.post .ldHldA s =
      ((s.write8 s.hl (s.reg .a)).setPair .hl (s.hl + -1)).advance 1 8 := rfl
@[simp] theorem post_ldAHld (s : State) :
    Form.post .ldAHld s =
      ((s.setReg .a (s.read8 s.hl)).setPair .hl (s.hl + -1)).advance 1 8 := rfl
@[simp] theorem post_ldWide (rr : WideReg) (nn : Word) (s : State) :
    Form.post (.ldWide rr nn) s =
      (s.setWide rr nn).advance 3 12 := rfl
@[simp] theorem post_ldNnSp (nn : Word) (s : State) :
    Form.post (.ldNnSp nn) s =
      (s.write16 nn s.sp).advance 3 20 := rfl
@[simp] theorem post_ldSpHl (s : State) :
    Form.post .ldSpHl s =
      (s.setSp s.hl).advance 1 8 := rfl
@[simp] theorem post_ldHlSpE (e : Byte) (s : State) :
    Form.post (.ldHlSpE e) s =
      ((s.setPair .hl (addSp s.sp e).1).setFlags (addSp s.sp e).2).advance 2 12 := rfl
@[simp] theorem post_push (p : Pair) (s : State) :
    Form.post (.push p) s =
      (s.push16 (s.pair p)).advance 1 16 := rfl
@[simp] theorem post_pop (p : Pair) (s : State) :
    Form.post (.pop p) s =
      (s.popDone.setPair p s.popValue).advance 1 12 := rfl
@[simp] theorem post_alu (op : AluOp) (src : Src8) (s : State) :
    Form.post (.alu op src) s =
      (s.setAF (op.apply s.flags.c (s.reg .a) (src.value s))).advance src.length src.ticks := rfl
@[simp] theorem post_inc (x : Loc8) (s : State) :
    Form.post (.inc x) s =
      (s.putF x (inc8 s.flags (x.value s))).advance 1 x.modifyTicks := rfl
@[simp] theorem post_dec (x : Loc8) (s : State) :
    Form.post (.dec x) s =
      (s.putF x (dec8 s.flags (x.value s))).advance 1 x.modifyTicks := rfl
@[simp] theorem post_daa (s : State) :
    Form.post .daa s =
      (s.setAF (daa8 s.flags (s.reg .a))).advance 1 4 := rfl
@[simp] theorem post_cpl (s : State) :
    Form.post .cpl s =
      (s.setAF (s.reg .a ^^^ 0xFF, { s.flags with n := true, h := true })).advance 1 4 := rfl
@[simp] theorem post_scf (s : State) :
    Form.post .scf s =
      (s.setFlags ⟨s.flags.z, false, false, true⟩).advance 1 4 := rfl
@[simp] theorem post_ccf (s : State) :
    Form.post .ccf s =
      (s.setFlags ⟨s.flags.z, false, false, !s.flags.c⟩).advance 1 4 := rfl
@[simp] theorem post_addHl (rr : WideReg) (s : State) :
    Form.post (.addHl rr) s =
      ((s.setPair .hl (addHl16 s.flags s.hl (s.wide rr)).1).setFlags (addHl16 s.flags s.hl (s.wide rr)).2).advance 1 8 := rfl
@[simp] theorem post_incWide (rr : WideReg) (s : State) :
    Form.post (.incWide rr) s =
      (s.setWide rr (s.wide rr + 1)).advance 1 8 := rfl
@[simp] theorem post_decWide (rr : WideReg) (s : State) :
    Form.post (.decWide rr) s =
      (s.setWide rr (s.wide rr - 1)).advance 1 8 := rfl
@[simp] theorem post_addSpE (e : Byte) (s : State) :
    Form.post (.addSpE e) s =
      ((s.setSp (addSp s.sp e).1).setFlags (addSp s.sp e).2).advance 2 16 := rfl
@[simp] theorem post_rlca (s : State) :
    Form.post .rlca s =
      (s.setAF ((rlc8 (s.reg .a)).1, { (rlc8 (s.reg .a)).2 with z := false })).advance 1 4 := rfl
@[simp] theorem post_rla (s : State) :
    Form.post .rla s =
      (s.setAF ((rl8 s.flags.c (s.reg .a)).1, { (rl8 s.flags.c (s.reg .a)).2 with z := false })).advance 1 4 := rfl
@[simp] theorem post_rrca (s : State) :
    Form.post .rrca s =
      (s.setAF ((rrc8 (s.reg .a)).1, { (rrc8 (s.reg .a)).2 with z := false })).advance 1 4 := rfl
@[simp] theorem post_rra (s : State) :
    Form.post .rra s =
      (s.setAF ((rr8 s.flags.c (s.reg .a)).1, { (rr8 s.flags.c (s.reg .a)).2 with z := false })).advance 1 4 := rfl
@[simp] theorem post_rot (op : RotOp) (x : Loc8) (s : State) :
    Form.post (.rot op x) s =
      (s.putF x (op.apply s.flags.c (x.value s))).advance 1 x.modifyTicks := rfl
@[simp] theorem post_bit (b : Oct) (x : Loc8) (s : State) :
    Form.post (.bit b x) s =
      (s.setFlags (bitTest s.flags b (x.value s))).advance 1 x.testTicks := rfl
@[simp] theorem post_res (b : Oct) (x : Loc8) (s : State) :
    Form.post (.res b x) s =
      (x.put (res8 b (x.value s)) s).advance 1 x.modifyTicks := rfl
@[simp] theorem post_set (b : Oct) (x : Loc8) (s : State) :
    Form.post (.set b x) s =
      (x.put (set8 b (x.value s)) s).advance 1 x.modifyTicks := rfl
@[simp] theorem post_jp (nn : Word) (s : State) :
    Form.post (.jp nn) s =
      s.goTo nn 16 := rfl
@[simp] theorem post_jpCc (cc : Cond) (nn : Word) (s : State) :
    Form.post (.jpCc cc nn) s =
      if cc.holds s then s.goTo nn 16 else s.goTo (s.following 3) 12 := rfl
@[simp] theorem post_jpHl (s : State) :
    Form.post .jpHl s =
      s.goTo s.hl 4 := rfl
@[simp] theorem post_jr (e : Byte) (s : State) :
    Form.post (.jr e) s =
      s.goTo (s.relativeTarget e) 12 := rfl
@[simp] theorem post_jrCc (cc : Cond) (e : Byte) (s : State) :
    Form.post (.jrCc cc e) s =
      if cc.holds s then s.goTo (s.relativeTarget e) 12 else s.goTo (s.following 2) 8 := rfl
@[simp] theorem post_call (nn : Word) (s : State) :
    Form.post (.call nn) s =
      (s.push16 (s.following 3)).goTo nn 24 := rfl
@[simp] theorem post_callCc (cc : Cond) (nn : Word) (s : State) :
    Form.post (.callCc cc nn) s =
      if cc.holds s then (s.push16 (s.following 3)).goTo nn 24 else s.goTo (s.following 3) 12 := rfl
@[simp] theorem post_ret (s : State) :
    Form.post .ret s =
      s.popDone.goTo s.popValue 16 := rfl
@[simp] theorem post_retCc (cc : Cond) (s : State) :
    Form.post (.retCc cc) s =
      if cc.holds s then s.popDone.goTo s.popValue 20 else s.goTo (s.following 1) 8 := rfl
@[simp] theorem post_reti (s : State) :
    Form.post .reti s =
      s.returnFromInterrupt.addTicks 16 := rfl
@[simp] theorem post_rst (y : Oct) (s : State) :
    Form.post (.rst y) s =
      (s.push16 (s.following 1)).goTo y.restart 16 := rfl
@[simp] theorem post_nop (s : State) :
    Form.post .nop s =
      s.advance 1 4 := rfl
@[simp] theorem post_halt (s : State) :
    Form.post .halt s =
      (s.setHalt true).advance 1 4 := rfl
@[simp] theorem post_stop (n : Byte) (s : State) :
    Form.post (.stop n) s =
      s.advance 2 4 := rfl
@[simp] theorem post_di (s : State) :
    Form.post .di s =
      (s.setIme false).advance 1 4 := rfl
@[simp] theorem post_ei (s : State) :
    Form.post .ei s =
      (s.setIme true).advance 1 4 := rfl
@[simp] theorem post_prefixCb (s : State) :
    Form.post .prefixCb s =
      (s.setExt true).advance 1 4 := rfl
@[simp] theorem post_undef (u : Undef) (s : State) :
    Form.post (.undef u) s =
      s.advance 1 4 := rfl

/-! ## `exec` -/

/-- A conditional of two next states is the next state of a conditional. -/
theorem next_ite (b : Bool) (x y : State) :
    (if b then .next x else .next y : Result) = .next (if b then x else y) := by cases b <;> rfl

theorem FormView.all (i : Instr) : i.form.instr = i := by
  cases i <;> rfl

/-- The form of the instruction of a form. -/
theorem form_instr (f : Form) : f.instr.form = f := by
  cases f with
  | ld dst src => rcases src with r | _ | n <;> cases dst <;> first | rfl | (cases r <;> rfl)
  | alu op src => rcases src with r | _ | n <;> cases op <;> first | rfl | (cases r <;> rfl)
  | ldToHl r => cases r <;> rfl
  | ldWide rr _ => cases rr <;> rfl
  | push p => cases p <;> rfl
  | pop p => cases p <;> rfl
  | inc x => rcases x with r | _ <;> first | rfl | (cases r <;> rfl)
  | dec x => rcases x with r | _ <;> first | rfl | (cases r <;> rfl)
  | addHl rr => cases rr <;> rfl
  | incWide rr => cases rr <;> rfl
  | decWide rr => cases rr <;> rfl
  | rot op x => rcases x with r | _ <;> cases op <;> first | rfl | (cases r <;> rfl)
  | bit b x => rcases x with r | _ <;> cases b <;> first | rfl | (cases r <;> rfl)
  | res b x => rcases x with r | _ <;> cases b <;> first | rfl | (cases r <;> rfl)
  | set b x => rcases x with r | _ <;> cases b <;> first | rfl | (cases r <;> rfl)
  | jpCc cc _ => cases cc <;> rfl
  | jrCc cc _ => cases cc <;> rfl
  | callCc cc _ => cases cc <;> rfl
  | retCc cc => cases cc <;> rfl
  | rst y => cases y <;> rfl
  | undef u => cases u <;> rfl
  | _ => rfl

/-- Every instruction answers a next state: the one its form gives. -/
theorem exec_eq (i : Instr) (s : State) : exec i s = .next (i.form.post s) := by
  cases i <;> first | rfl | exact next_ite _ _ _

/-- The same for the instruction of a form. -/
theorem exec_instr (f : Form) (s : State) : exec f.instr s = .next (f.post s) := by
  rw [exec_eq, form_instr]

/-- A next state of `exec` is the one its form gives. -/
theorem of_exec_eq {i : Instr} {s t : State} (h : exec i s = .next t) : t = i.form.post s := by
  rw [exec_eq] at h; exact (Host.Outcome.next.inj h).symm

end Laws

end Sys2Proof
end

