-- ==== Sys2Proof/Laws/Table.lean ====
section
/-! SUPPORT. What the two tables and the decoder do with any byte, said once. -/

namespace Sys2Proof.Laws

open Machine

/-- The operand bytes of an entry of a format, with operand byte `n` and operand word `nn` (R61, R67). -/
def operandsOf : Format → Byte → Word → List Byte
  | .op1, _, _ | .cb, _, _ => []
  | .op2n, n, _ | .op2e, n, _ => [n]
  | .op3, _, nn => [loByte nn, hiByte nn]

/-- The format of the entry that an opcode byte selects. -/
def entryFormat (ext : Bool) (op : Byte) : Format := (tableEntry ext op 0 0).form.format

/-- The operand byte, where the format has one. -/
def keptByte : Format → Byte → Byte
  | .op2n, n | .op2e, n => n
  | .op1, _ | .cb, _ | .op3, _ => 0

/-- The operand word, where the format has one. -/
def keptWord : Format → Word → Word
  | .op3, nn => nn
  | .op1, _ | .cb, _ | .op2n, _ | .op2e, _ => 0

/-- The entry of the tables at an opcode agrees with the encoder: the opcode byte, the operand bytes and the format
of its form are its own place in the table, whatever the operands. -/
def EntryAgrees (ext : Bool) (op : Byte) : Prop :=
  ∀ n nn, (tableEntry ext op n nn).form.opcode = op ∧
    (tableEntry ext op n nn).form.operandBytes = operandsOf (entryFormat ext op) n nn ∧
    (tableEntry ext op n nn).form.format = entryFormat ext op ∧ (entryFormat ext op == .cb) = ext ∧
    tableEntry ext op n nn = tableEntry ext op (keptByte (entryFormat ext op) n) (keptWord (entryFormat ext op) nn)

theorem forall_byte {P : Byte → Prop} (h : ∀ k : Fin 256, P ⟨k⟩) (b : Byte) : P b := h b.toFin

set_option maxHeartbeats 4000000 in
/-- All 512 entries agree with the encoder. -/
theorem entry_agrees (ext : Bool) (op : Byte) : EntryAgrees ext op := by
  refine forall_byte (fun k => ?_) op
  cases ext <;> fin_cases k <;> exact fun n nn => (by with_unfolding_all exact ⟨rfl, rfl, rfl, rfl, rfl⟩)

/-- Every instruction stands at its own opcode in its own table. -/
theorem OwnEntry.all (i : Instr) : ∃ n nn, tableEntry i.isExtended i.form.opcode n nn = i := by
  cases i
  case nop => exact OwnEntry.nop
  case ld_bc_nn nn => exact OwnEntry.ld_bc_nn _
  case ld_at_bc_a => exact OwnEntry.ld_at_bc_a
  case inc_bc => exact OwnEntry.inc_bc
  case inc_b => exact OwnEntry.inc_b
  case dec_b => exact OwnEntry.dec_b
  case ld_b_n n => exact OwnEntry.ld_b_n _
  case rlca => exact OwnEntry.rlca
  case ld_at_nn_sp nn => exact OwnEntry.ld_at_nn_sp _
  case add_hl_bc => exact OwnEntry.add_hl_bc
  case ld_a_at_bc => exact OwnEntry.ld_a_at_bc
  case dec_bc => exact OwnEntry.dec_bc
  case inc_c => exact OwnEntry.inc_c
  case dec_c => exact OwnEntry.dec_c
  case ld_c_n n => exact OwnEntry.ld_c_n _
  case rrca => exact OwnEntry.rrca
  case stop n => exact OwnEntry.stop _
  case ld_de_nn nn => exact OwnEntry.ld_de_nn _
  case ld_at_de_a => exact OwnEntry.ld_at_de_a
  case inc_de => exact OwnEntry.inc_de
  case inc_d => exact OwnEntry.inc_d
  case dec_d => exact OwnEntry.dec_d
  case ld_d_n n => exact OwnEntry.ld_d_n _
  case rla => exact OwnEntry.rla
  case jr_e e => exact OwnEntry.jr_e _
  case add_hl_de => exact OwnEntry.add_hl_de
  case ld_a_at_de => exact OwnEntry.ld_a_at_de
  case dec_de => exact OwnEntry.dec_de
  case inc_e => exact OwnEntry.inc_e
  case dec_e => exact OwnEntry.dec_e
  case ld_e_n n => exact OwnEntry.ld_e_n _
  case rra => exact OwnEntry.rra
  case jr_nz_e e => exact OwnEntry.jr_nz_e _
  case ld_hl_nn nn => exact OwnEntry.ld_hl_nn _
  case ld_at_hli_a => exact OwnEntry.ld_at_hli_a
  case inc_hl => exact OwnEntry.inc_hl
  case inc_h => exact OwnEntry.inc_h
  case dec_h => exact OwnEntry.dec_h
  case ld_h_n n => exact OwnEntry.ld_h_n _
  case daa => exact OwnEntry.daa
  case jr_z_e e => exact OwnEntry.jr_z_e _
  case add_hl_hl => exact OwnEntry.add_hl_hl
  case ld_a_at_hli => exact OwnEntry.ld_a_at_hli
  case dec_hl => exact OwnEntry.dec_hl
  case inc_l => exact OwnEntry.inc_l
  case dec_l => exact OwnEntry.dec_l
  case ld_l_n n => exact OwnEntry.ld_l_n _
  case cpl => exact OwnEntry.cpl
  case jr_nc_e e => exact OwnEntry.jr_nc_e _
  case ld_sp_nn nn => exact OwnEntry.ld_sp_nn _
  case ld_at_hld_a => exact OwnEntry.ld_at_hld_a
  case inc_sp => exact OwnEntry.inc_sp
  case inc_at_hl => exact OwnEntry.inc_at_hl
  case dec_at_hl => exact OwnEntry.dec_at_hl
  case ld_at_hl_n n => exact OwnEntry.ld_at_hl_n _
  case scf => exact OwnEntry.scf
  case jr_c_e e => exact OwnEntry.jr_c_e _
  case add_hl_sp => exact OwnEntry.add_hl_sp
  case ld_a_at_hld => exact OwnEntry.ld_a_at_hld
  case dec_sp => exact OwnEntry.dec_sp
  case inc_a => exact OwnEntry.inc_a
  case dec_a => exact OwnEntry.dec_a
  case ld_a_n n => exact OwnEntry.ld_a_n _
  case ccf => exact OwnEntry.ccf
  case ld_b_b => exact OwnEntry.ld_b_b
  case ld_b_c => exact OwnEntry.ld_b_c
  case ld_b_d => exact OwnEntry.ld_b_d
  case ld_b_e => exact OwnEntry.ld_b_e
  case ld_b_h => exact OwnEntry.ld_b_h
  case ld_b_l => exact OwnEntry.ld_b_l
  case ld_b_at_hl => exact OwnEntry.ld_b_at_hl
  case ld_b_a => exact OwnEntry.ld_b_a
  case ld_c_b => exact OwnEntry.ld_c_b
  case ld_c_c => exact OwnEntry.ld_c_c
  case ld_c_d => exact OwnEntry.ld_c_d
  case ld_c_e => exact OwnEntry.ld_c_e
  case ld_c_h => exact OwnEntry.ld_c_h
  case ld_c_l => exact OwnEntry.ld_c_l
  case ld_c_at_hl => exact OwnEntry.ld_c_at_hl
  case ld_c_a => exact OwnEntry.ld_c_a
  case ld_d_b => exact OwnEntry.ld_d_b
  case ld_d_c => exact OwnEntry.ld_d_c
  case ld_d_d => exact OwnEntry.ld_d_d
  case ld_d_e => exact OwnEntry.ld_d_e
  case ld_d_h => exact OwnEntry.ld_d_h
  case ld_d_l => exact OwnEntry.ld_d_l
  case ld_d_at_hl => exact OwnEntry.ld_d_at_hl
  case ld_d_a => exact OwnEntry.ld_d_a
  case ld_e_b => exact OwnEntry.ld_e_b
  case ld_e_c => exact OwnEntry.ld_e_c
  case ld_e_d => exact OwnEntry.ld_e_d
  case ld_e_e => exact OwnEntry.ld_e_e
  case ld_e_h => exact OwnEntry.ld_e_h
  case ld_e_l => exact OwnEntry.ld_e_l
  case ld_e_at_hl => exact OwnEntry.ld_e_at_hl
  case ld_e_a => exact OwnEntry.ld_e_a
  case ld_h_b => exact OwnEntry.ld_h_b
  case ld_h_c => exact OwnEntry.ld_h_c
  case ld_h_d => exact OwnEntry.ld_h_d
  case ld_h_e => exact OwnEntry.ld_h_e
  case ld_h_h => exact OwnEntry.ld_h_h
  case ld_h_l => exact OwnEntry.ld_h_l
  case ld_h_at_hl => exact OwnEntry.ld_h_at_hl
  case ld_h_a => exact OwnEntry.ld_h_a
  case ld_l_b => exact OwnEntry.ld_l_b
  case ld_l_c => exact OwnEntry.ld_l_c
  case ld_l_d => exact OwnEntry.ld_l_d
  case ld_l_e => exact OwnEntry.ld_l_e
  case ld_l_h => exact OwnEntry.ld_l_h
  case ld_l_l => exact OwnEntry.ld_l_l
  case ld_l_at_hl => exact OwnEntry.ld_l_at_hl
  case ld_l_a => exact OwnEntry.ld_l_a
  case ld_at_hl_b => exact OwnEntry.ld_at_hl_b
  case ld_at_hl_c => exact OwnEntry.ld_at_hl_c
  case ld_at_hl_d => exact OwnEntry.ld_at_hl_d
  case ld_at_hl_e => exact OwnEntry.ld_at_hl_e
  case ld_at_hl_h => exact OwnEntry.ld_at_hl_h
  case ld_at_hl_l => exact OwnEntry.ld_at_hl_l
  case halt => exact OwnEntry.halt
  case ld_at_hl_a => exact OwnEntry.ld_at_hl_a
  case ld_a_b => exact OwnEntry.ld_a_b
  case ld_a_c => exact OwnEntry.ld_a_c
  case ld_a_d => exact OwnEntry.ld_a_d
  case ld_a_e => exact OwnEntry.ld_a_e
  case ld_a_h => exact OwnEntry.ld_a_h
  case ld_a_l => exact OwnEntry.ld_a_l
  case ld_a_at_hl => exact OwnEntry.ld_a_at_hl
  case ld_a_a => exact OwnEntry.ld_a_a
  case add_a_b => exact OwnEntry.add_a_b
  case add_a_c => exact OwnEntry.add_a_c
  case add_a_d => exact OwnEntry.add_a_d
  case add_a_e => exact OwnEntry.add_a_e
  case add_a_h => exact OwnEntry.add_a_h
  case add_a_l => exact OwnEntry.add_a_l
  case add_a_at_hl => exact OwnEntry.add_a_at_hl
  case add_a_a => exact OwnEntry.add_a_a
  case adc_a_b => exact OwnEntry.adc_a_b
  case adc_a_c => exact OwnEntry.adc_a_c
  case adc_a_d => exact OwnEntry.adc_a_d
  case adc_a_e => exact OwnEntry.adc_a_e
  case adc_a_h => exact OwnEntry.adc_a_h
  case adc_a_l => exact OwnEntry.adc_a_l
  case adc_a_at_hl => exact OwnEntry.adc_a_at_hl
  case adc_a_a => exact OwnEntry.adc_a_a
  case sub_b => exact OwnEntry.sub_b
  case sub_c => exact OwnEntry.sub_c
  case sub_d => exact OwnEntry.sub_d
  case sub_e => exact OwnEntry.sub_e
  case sub_h => exact OwnEntry.sub_h
  case sub_l => exact OwnEntry.sub_l
  case sub_at_hl => exact OwnEntry.sub_at_hl
  case sub_a => exact OwnEntry.sub_a
  case sbc_a_b => exact OwnEntry.sbc_a_b
  case sbc_a_c => exact OwnEntry.sbc_a_c
  case sbc_a_d => exact OwnEntry.sbc_a_d
  case sbc_a_e => exact OwnEntry.sbc_a_e
  case sbc_a_h => exact OwnEntry.sbc_a_h
  case sbc_a_l => exact OwnEntry.sbc_a_l
  case sbc_a_at_hl => exact OwnEntry.sbc_a_at_hl
  case sbc_a_a => exact OwnEntry.sbc_a_a
  case and_b => exact OwnEntry.and_b
  case and_c => exact OwnEntry.and_c
  case and_d => exact OwnEntry.and_d
  case and_e => exact OwnEntry.and_e
  case and_h => exact OwnEntry.and_h
  case and_l => exact OwnEntry.and_l
  case and_at_hl => exact OwnEntry.and_at_hl
  case and_a => exact OwnEntry.and_a
  case xor_b => exact OwnEntry.xor_b
  case xor_c => exact OwnEntry.xor_c
  case xor_d => exact OwnEntry.xor_d
  case xor_e => exact OwnEntry.xor_e
  case xor_h => exact OwnEntry.xor_h
  case xor_l => exact OwnEntry.xor_l
  case xor_at_hl => exact OwnEntry.xor_at_hl
  case xor_a => exact OwnEntry.xor_a
  case or_b => exact OwnEntry.or_b
  case or_c => exact OwnEntry.or_c
  case or_d => exact OwnEntry.or_d
  case or_e => exact OwnEntry.or_e
  case or_h => exact OwnEntry.or_h
  case or_l => exact OwnEntry.or_l
  case or_at_hl => exact OwnEntry.or_at_hl
  case or_a => exact OwnEntry.or_a
  case cp_b => exact OwnEntry.cp_b
  case cp_c => exact OwnEntry.cp_c
  case cp_d => exact OwnEntry.cp_d
  case cp_e => exact OwnEntry.cp_e
  case cp_h => exact OwnEntry.cp_h
  case cp_l => exact OwnEntry.cp_l
  case cp_at_hl => exact OwnEntry.cp_at_hl
  case cp_a => exact OwnEntry.cp_a
  case ret_nz => exact OwnEntry.ret_nz
  case pop_bc => exact OwnEntry.pop_bc
  case jp_nz_nn nn => exact OwnEntry.jp_nz_nn _
  case jp_nn nn => exact OwnEntry.jp_nn _
  case call_nz_nn nn => exact OwnEntry.call_nz_nn _
  case push_bc => exact OwnEntry.push_bc
  case add_a_n n => exact OwnEntry.add_a_n _
  case rst_00 => exact OwnEntry.rst_00
  case ret_z => exact OwnEntry.ret_z
  case ret => exact OwnEntry.ret
  case jp_z_nn nn => exact OwnEntry.jp_z_nn _
  case prefix_cb => exact OwnEntry.prefix_cb
  case call_z_nn nn => exact OwnEntry.call_z_nn _
  case call_nn nn => exact OwnEntry.call_nn _
  case adc_a_n n => exact OwnEntry.adc_a_n _
  case rst_08 => exact OwnEntry.rst_08
  case ret_nc => exact OwnEntry.ret_nc
  case pop_de => exact OwnEntry.pop_de
  case jp_nc_nn nn => exact OwnEntry.jp_nc_nn _
  case undef_d3 => exact OwnEntry.undef_d3
  case call_nc_nn nn => exact OwnEntry.call_nc_nn _
  case push_de => exact OwnEntry.push_de
  case sub_n n => exact OwnEntry.sub_n _
  case rst_10 => exact OwnEntry.rst_10
  case ret_c => exact OwnEntry.ret_c
  case reti => exact OwnEntry.reti
  case jp_c_nn nn => exact OwnEntry.jp_c_nn _
  case undef_db => exact OwnEntry.undef_db
  case call_c_nn nn => exact OwnEntry.call_c_nn _
  case undef_dd => exact OwnEntry.undef_dd
  case sbc_a_n n => exact OwnEntry.sbc_a_n _
  case rst_18 => exact OwnEntry.rst_18
  case ldh_at_n_a n => exact OwnEntry.ldh_at_n_a _
  case pop_hl => exact OwnEntry.pop_hl
  case ldh_at_c_a => exact OwnEntry.ldh_at_c_a
  case undef_e3 => exact OwnEntry.undef_e3
  case undef_e4 => exact OwnEntry.undef_e4
  case push_hl => exact OwnEntry.push_hl
  case and_n n => exact OwnEntry.and_n _
  case rst_20 => exact OwnEntry.rst_20
  case add_sp_e e => exact OwnEntry.add_sp_e _
  case jp_hl => exact OwnEntry.jp_hl
  case ld_at_nn_a nn => exact OwnEntry.ld_at_nn_a _
  case undef_eb => exact OwnEntry.undef_eb
  case undef_ec => exact OwnEntry.undef_ec
  case undef_ed => exact OwnEntry.undef_ed
  case xor_n n => exact OwnEntry.xor_n _
  case rst_28 => exact OwnEntry.rst_28
  case ldh_a_at_n n => exact OwnEntry.ldh_a_at_n _
  case pop_af => exact OwnEntry.pop_af
  case ldh_a_at_c => exact OwnEntry.ldh_a_at_c
  case di => exact OwnEntry.di
  case undef_f4 => exact OwnEntry.undef_f4
  case push_af => exact OwnEntry.push_af
  case or_n n => exact OwnEntry.or_n _
  case rst_30 => exact OwnEntry.rst_30
  case ld_hl_sp_e e => exact OwnEntry.ld_hl_sp_e _
  case ld_sp_hl => exact OwnEntry.ld_sp_hl
  case ld_a_at_nn nn => exact OwnEntry.ld_a_at_nn _
  case ei => exact OwnEntry.ei
  case undef_fc => exact OwnEntry.undef_fc
  case undef_fd => exact OwnEntry.undef_fd
  case cp_n n => exact OwnEntry.cp_n _
  case rst_38 => exact OwnEntry.rst_38
  case rlc_b => exact OwnEntry.rlc_b
  case rlc_c => exact OwnEntry.rlc_c
  case rlc_d => exact OwnEntry.rlc_d
  case rlc_e => exact OwnEntry.rlc_e
  case rlc_h => exact OwnEntry.rlc_h
  case rlc_l => exact OwnEntry.rlc_l
  case rlc_at_hl => exact OwnEntry.rlc_at_hl
  case rlc_a => exact OwnEntry.rlc_a
  case rrc_b => exact OwnEntry.rrc_b
  case rrc_c => exact OwnEntry.rrc_c
  case rrc_d => exact OwnEntry.rrc_d
  case rrc_e => exact OwnEntry.rrc_e
  case rrc_h => exact OwnEntry.rrc_h
  case rrc_l => exact OwnEntry.rrc_l
  case rrc_at_hl => exact OwnEntry.rrc_at_hl
  case rrc_a => exact OwnEntry.rrc_a
  case rl_b => exact OwnEntry.rl_b
  case rl_c => exact OwnEntry.rl_c
  case rl_d => exact OwnEntry.rl_d
  case rl_e => exact OwnEntry.rl_e
  case rl_h => exact OwnEntry.rl_h
  case rl_l => exact OwnEntry.rl_l
  case rl_at_hl => exact OwnEntry.rl_at_hl
  case rl_a => exact OwnEntry.rl_a
  case rr_b => exact OwnEntry.rr_b
  case rr_c => exact OwnEntry.rr_c
  case rr_d => exact OwnEntry.rr_d
  case rr_e => exact OwnEntry.rr_e
  case rr_h => exact OwnEntry.rr_h
  case rr_l => exact OwnEntry.rr_l
  case rr_at_hl => exact OwnEntry.rr_at_hl
  case rr_a => exact OwnEntry.rr_a
  case sla_b => exact OwnEntry.sla_b
  case sla_c => exact OwnEntry.sla_c
  case sla_d => exact OwnEntry.sla_d
  case sla_e => exact OwnEntry.sla_e
  case sla_h => exact OwnEntry.sla_h
  case sla_l => exact OwnEntry.sla_l
  case sla_at_hl => exact OwnEntry.sla_at_hl
  case sla_a => exact OwnEntry.sla_a
  case sra_b => exact OwnEntry.sra_b
  case sra_c => exact OwnEntry.sra_c
  case sra_d => exact OwnEntry.sra_d
  case sra_e => exact OwnEntry.sra_e
  case sra_h => exact OwnEntry.sra_h
  case sra_l => exact OwnEntry.sra_l
  case sra_at_hl => exact OwnEntry.sra_at_hl
  case sra_a => exact OwnEntry.sra_a
  case swap_b => exact OwnEntry.swap_b
  case swap_c => exact OwnEntry.swap_c
  case swap_d => exact OwnEntry.swap_d
  case swap_e => exact OwnEntry.swap_e
  case swap_h => exact OwnEntry.swap_h
  case swap_l => exact OwnEntry.swap_l
  case swap_at_hl => exact OwnEntry.swap_at_hl
  case swap_a => exact OwnEntry.swap_a
  case srl_b => exact OwnEntry.srl_b
  case srl_c => exact OwnEntry.srl_c
  case srl_d => exact OwnEntry.srl_d
  case srl_e => exact OwnEntry.srl_e
  case srl_h => exact OwnEntry.srl_h
  case srl_l => exact OwnEntry.srl_l
  case srl_at_hl => exact OwnEntry.srl_at_hl
  case srl_a => exact OwnEntry.srl_a
  case bit_0_b => exact OwnEntry.bit_0_b
  case bit_0_c => exact OwnEntry.bit_0_c
  case bit_0_d => exact OwnEntry.bit_0_d
  case bit_0_e => exact OwnEntry.bit_0_e
  case bit_0_h => exact OwnEntry.bit_0_h
  case bit_0_l => exact OwnEntry.bit_0_l
  case bit_0_at_hl => exact OwnEntry.bit_0_at_hl
  case bit_0_a => exact OwnEntry.bit_0_a
  case bit_1_b => exact OwnEntry.bit_1_b
  case bit_1_c => exact OwnEntry.bit_1_c
  case bit_1_d => exact OwnEntry.bit_1_d
  case bit_1_e => exact OwnEntry.bit_1_e
  case bit_1_h => exact OwnEntry.bit_1_h
  case bit_1_l => exact OwnEntry.bit_1_l
  case bit_1_at_hl => exact OwnEntry.bit_1_at_hl
  case bit_1_a => exact OwnEntry.bit_1_a
  case bit_2_b => exact OwnEntry.bit_2_b
  case bit_2_c => exact OwnEntry.bit_2_c
  case bit_2_d => exact OwnEntry.bit_2_d
  case bit_2_e => exact OwnEntry.bit_2_e
  case bit_2_h => exact OwnEntry.bit_2_h
  case bit_2_l => exact OwnEntry.bit_2_l
  case bit_2_at_hl => exact OwnEntry.bit_2_at_hl
  case bit_2_a => exact OwnEntry.bit_2_a
  case bit_3_b => exact OwnEntry.bit_3_b
  case bit_3_c => exact OwnEntry.bit_3_c
  case bit_3_d => exact OwnEntry.bit_3_d
  case bit_3_e => exact OwnEntry.bit_3_e
  case bit_3_h => exact OwnEntry.bit_3_h
  case bit_3_l => exact OwnEntry.bit_3_l
  case bit_3_at_hl => exact OwnEntry.bit_3_at_hl
  case bit_3_a => exact OwnEntry.bit_3_a
  case bit_4_b => exact OwnEntry.bit_4_b
  case bit_4_c => exact OwnEntry.bit_4_c
  case bit_4_d => exact OwnEntry.bit_4_d
  case bit_4_e => exact OwnEntry.bit_4_e
  case bit_4_h => exact OwnEntry.bit_4_h
  case bit_4_l => exact OwnEntry.bit_4_l
  case bit_4_at_hl => exact OwnEntry.bit_4_at_hl
  case bit_4_a => exact OwnEntry.bit_4_a
  case bit_5_b => exact OwnEntry.bit_5_b
  case bit_5_c => exact OwnEntry.bit_5_c
  case bit_5_d => exact OwnEntry.bit_5_d
  case bit_5_e => exact OwnEntry.bit_5_e
  case bit_5_h => exact OwnEntry.bit_5_h
  case bit_5_l => exact OwnEntry.bit_5_l
  case bit_5_at_hl => exact OwnEntry.bit_5_at_hl
  case bit_5_a => exact OwnEntry.bit_5_a
  case bit_6_b => exact OwnEntry.bit_6_b
  case bit_6_c => exact OwnEntry.bit_6_c
  case bit_6_d => exact OwnEntry.bit_6_d
  case bit_6_e => exact OwnEntry.bit_6_e
  case bit_6_h => exact OwnEntry.bit_6_h
  case bit_6_l => exact OwnEntry.bit_6_l
  case bit_6_at_hl => exact OwnEntry.bit_6_at_hl
  case bit_6_a => exact OwnEntry.bit_6_a
  case bit_7_b => exact OwnEntry.bit_7_b
  case bit_7_c => exact OwnEntry.bit_7_c
  case bit_7_d => exact OwnEntry.bit_7_d
  case bit_7_e => exact OwnEntry.bit_7_e
  case bit_7_h => exact OwnEntry.bit_7_h
  case bit_7_l => exact OwnEntry.bit_7_l
  case bit_7_at_hl => exact OwnEntry.bit_7_at_hl
  case bit_7_a => exact OwnEntry.bit_7_a
  case res_0_b => exact OwnEntry.res_0_b
  case res_0_c => exact OwnEntry.res_0_c
  case res_0_d => exact OwnEntry.res_0_d
  case res_0_e => exact OwnEntry.res_0_e
  case res_0_h => exact OwnEntry.res_0_h
  case res_0_l => exact OwnEntry.res_0_l
  case res_0_at_hl => exact OwnEntry.res_0_at_hl
  case res_0_a => exact OwnEntry.res_0_a
  case res_1_b => exact OwnEntry.res_1_b
  case res_1_c => exact OwnEntry.res_1_c
  case res_1_d => exact OwnEntry.res_1_d
  case res_1_e => exact OwnEntry.res_1_e
  case res_1_h => exact OwnEntry.res_1_h
  case res_1_l => exact OwnEntry.res_1_l
  case res_1_at_hl => exact OwnEntry.res_1_at_hl
  case res_1_a => exact OwnEntry.res_1_a
  case res_2_b => exact OwnEntry.res_2_b
  case res_2_c => exact OwnEntry.res_2_c
  case res_2_d => exact OwnEntry.res_2_d
  case res_2_e => exact OwnEntry.res_2_e
  case res_2_h => exact OwnEntry.res_2_h
  case res_2_l => exact OwnEntry.res_2_l
  case res_2_at_hl => exact OwnEntry.res_2_at_hl
  case res_2_a => exact OwnEntry.res_2_a
  case res_3_b => exact OwnEntry.res_3_b
  case res_3_c => exact OwnEntry.res_3_c
  case res_3_d => exact OwnEntry.res_3_d
  case res_3_e => exact OwnEntry.res_3_e
  case res_3_h => exact OwnEntry.res_3_h
  case res_3_l => exact OwnEntry.res_3_l
  case res_3_at_hl => exact OwnEntry.res_3_at_hl
  case res_3_a => exact OwnEntry.res_3_a
  case res_4_b => exact OwnEntry.res_4_b
  case res_4_c => exact OwnEntry.res_4_c
  case res_4_d => exact OwnEntry.res_4_d
  case res_4_e => exact OwnEntry.res_4_e
  case res_4_h => exact OwnEntry.res_4_h
  case res_4_l => exact OwnEntry.res_4_l
  case res_4_at_hl => exact OwnEntry.res_4_at_hl
  case res_4_a => exact OwnEntry.res_4_a
  case res_5_b => exact OwnEntry.res_5_b
  case res_5_c => exact OwnEntry.res_5_c
  case res_5_d => exact OwnEntry.res_5_d
  case res_5_e => exact OwnEntry.res_5_e
  case res_5_h => exact OwnEntry.res_5_h
  case res_5_l => exact OwnEntry.res_5_l
  case res_5_at_hl => exact OwnEntry.res_5_at_hl
  case res_5_a => exact OwnEntry.res_5_a
  case res_6_b => exact OwnEntry.res_6_b
  case res_6_c => exact OwnEntry.res_6_c
  case res_6_d => exact OwnEntry.res_6_d
  case res_6_e => exact OwnEntry.res_6_e
  case res_6_h => exact OwnEntry.res_6_h
  case res_6_l => exact OwnEntry.res_6_l
  case res_6_at_hl => exact OwnEntry.res_6_at_hl
  case res_6_a => exact OwnEntry.res_6_a
  case res_7_b => exact OwnEntry.res_7_b
  case res_7_c => exact OwnEntry.res_7_c
  case res_7_d => exact OwnEntry.res_7_d
  case res_7_e => exact OwnEntry.res_7_e
  case res_7_h => exact OwnEntry.res_7_h
  case res_7_l => exact OwnEntry.res_7_l
  case res_7_at_hl => exact OwnEntry.res_7_at_hl
  case res_7_a => exact OwnEntry.res_7_a
  case set_0_b => exact OwnEntry.set_0_b
  case set_0_c => exact OwnEntry.set_0_c
  case set_0_d => exact OwnEntry.set_0_d
  case set_0_e => exact OwnEntry.set_0_e
  case set_0_h => exact OwnEntry.set_0_h
  case set_0_l => exact OwnEntry.set_0_l
  case set_0_at_hl => exact OwnEntry.set_0_at_hl
  case set_0_a => exact OwnEntry.set_0_a
  case set_1_b => exact OwnEntry.set_1_b
  case set_1_c => exact OwnEntry.set_1_c
  case set_1_d => exact OwnEntry.set_1_d
  case set_1_e => exact OwnEntry.set_1_e
  case set_1_h => exact OwnEntry.set_1_h
  case set_1_l => exact OwnEntry.set_1_l
  case set_1_at_hl => exact OwnEntry.set_1_at_hl
  case set_1_a => exact OwnEntry.set_1_a
  case set_2_b => exact OwnEntry.set_2_b
  case set_2_c => exact OwnEntry.set_2_c
  case set_2_d => exact OwnEntry.set_2_d
  case set_2_e => exact OwnEntry.set_2_e
  case set_2_h => exact OwnEntry.set_2_h
  case set_2_l => exact OwnEntry.set_2_l
  case set_2_at_hl => exact OwnEntry.set_2_at_hl
  case set_2_a => exact OwnEntry.set_2_a
  case set_3_b => exact OwnEntry.set_3_b
  case set_3_c => exact OwnEntry.set_3_c
  case set_3_d => exact OwnEntry.set_3_d
  case set_3_e => exact OwnEntry.set_3_e
  case set_3_h => exact OwnEntry.set_3_h
  case set_3_l => exact OwnEntry.set_3_l
  case set_3_at_hl => exact OwnEntry.set_3_at_hl
  case set_3_a => exact OwnEntry.set_3_a
  case set_4_b => exact OwnEntry.set_4_b
  case set_4_c => exact OwnEntry.set_4_c
  case set_4_d => exact OwnEntry.set_4_d
  case set_4_e => exact OwnEntry.set_4_e
  case set_4_h => exact OwnEntry.set_4_h
  case set_4_l => exact OwnEntry.set_4_l
  case set_4_at_hl => exact OwnEntry.set_4_at_hl
  case set_4_a => exact OwnEntry.set_4_a
  case set_5_b => exact OwnEntry.set_5_b
  case set_5_c => exact OwnEntry.set_5_c
  case set_5_d => exact OwnEntry.set_5_d
  case set_5_e => exact OwnEntry.set_5_e
  case set_5_h => exact OwnEntry.set_5_h
  case set_5_l => exact OwnEntry.set_5_l
  case set_5_at_hl => exact OwnEntry.set_5_at_hl
  case set_5_a => exact OwnEntry.set_5_a
  case set_6_b => exact OwnEntry.set_6_b
  case set_6_c => exact OwnEntry.set_6_c
  case set_6_d => exact OwnEntry.set_6_d
  case set_6_e => exact OwnEntry.set_6_e
  case set_6_h => exact OwnEntry.set_6_h
  case set_6_l => exact OwnEntry.set_6_l
  case set_6_at_hl => exact OwnEntry.set_6_at_hl
  case set_6_a => exact OwnEntry.set_6_a
  case set_7_b => exact OwnEntry.set_7_b
  case set_7_c => exact OwnEntry.set_7_c
  case set_7_d => exact OwnEntry.set_7_d
  case set_7_e => exact OwnEntry.set_7_e
  case set_7_h => exact OwnEntry.set_7_h
  case set_7_l => exact OwnEntry.set_7_l
  case set_7_at_hl => exact OwnEntry.set_7_at_hl
  case set_7_a => exact OwnEntry.set_7_a

/-- Its operand bytes are those of the entry. -/
theorem OwnEntry.operands (i : Instr) : ∃ n nn, tableEntry i.isExtended i.form.opcode n nn = i ∧
    i.form.operandBytes = operandsOf i.form.format n nn := by
  obtain ⟨n, nn, h⟩ := OwnEntry.all i
  obtain ⟨-, h2, h3, -⟩ := entry_agrees i.isExtended i.form.opcode n nn
  rw [h] at h2 h3
  exact ⟨n, nn, h, by rw [h2, h3]⟩

/-! ## The decoder, by format -/

theorem decode_cons (ext : Bool) (op : Byte) (rest : List Byte) :
    decode ext (op :: rest) =
      match entryFormat ext op, rest with
      | .op1, rest | .cb, rest => .ok (tableEntry ext op 0 0, rest)
      | .op2n, n :: rest | .op2e, n :: rest => .ok (tableEntry ext op n 0, rest)
      | .op3, lo :: hi :: rest => .ok (tableEntry ext op 0 (joinBytes hi lo), rest)
      | .op2n, [] | .op2e, [] | .op3, [] | .op3, [_] => .error .truncated := rfl

theorem decode_op1 (ext : Bool) (op : Byte) (rest : List Byte)
    (h : entryFormat ext op = .op1 ∨ entryFormat ext op = .cb) :
    decode ext (op :: rest) = .ok (tableEntry ext op 0 0, rest) := by
  rw [decode_cons]; rcases h with h | h <;> rw [h]

theorem decode_op2 (ext : Bool) (op n : Byte) (rest : List Byte)
    (h : entryFormat ext op = .op2n ∨ entryFormat ext op = .op2e) :
    decode ext (op :: n :: rest) = .ok (tableEntry ext op n 0, rest) := by
  rw [decode_cons]; rcases h with h | h <;> rw [h]

theorem decode_op3 (ext : Bool) (op lo hi : Byte) (rest : List Byte) (h : entryFormat ext op = .op3) :
    decode ext (op :: lo :: hi :: rest) = .ok (tableEntry ext op 0 (joinBytes hi lo), rest) := by
  rw [decode_cons, h]

/-- What a successful decoding is: the entry of the first byte, with the operand bytes of its format taken off. -/
theorem decode_ok {ext : Bool} {bytes : List Byte} {i : Instr} {rest : List Byte}
    (h : decode ext bytes = .ok (i, rest)) :
    ∃ op n nn, i = tableEntry ext op n nn ∧ bytes = op :: operandsOf (entryFormat ext op) n nn ++ rest ∧
      n = keptByte (entryFormat ext op) n ∧ nn = keptWord (entryFormat ext op) nn := by
  cases bytes with
  | nil => simp [decode] at h
  | cons op tail =>
    cases hf : entryFormat ext op with
    | op1 | cb =>
      rw [decode_op1 _ _ _ (by simp [hf])] at h
      obtain ⟨rfl, rfl⟩ := Prod.mk.inj (Except.ok.inj h)
      exact ⟨op, 0, 0, rfl, by simp [operandsOf, hf], by simp [hf, keptByte, keptWord]⟩
    | op2n | op2e =>
      cases tail with
      | nil => rw [decode_cons, hf] at h; simp at h
      | cons n tail =>
        rw [decode_op2 _ _ _ _ (by simp [hf])] at h
        obtain ⟨rfl, rfl⟩ := Prod.mk.inj (Except.ok.inj h)
        exact ⟨op, n, 0, rfl, by simp [operandsOf, hf], by simp [hf, keptByte, keptWord]⟩
    | op3 =>
      match tail with
      | [] | [_] => rw [decode_cons, hf] at h; simp at h
      | lo :: hi :: tail =>
        rw [decode_op3 _ _ _ _ _ hf] at h
        obtain ⟨rfl, rfl⟩ := Prod.mk.inj (Except.ok.inj h)
        exact ⟨op, 0, joinBytes hi lo, rfl, by simp [operandsOf, hf], by simp [hf, keptByte, keptWord]⟩


end Sys2Proof.Laws
end

