-- ==== Sys2Proof/Laws/Step.lean ====
section
/-! SUPPORT. What dispatch, the interrupt check, the halted step and a step can do, each said once. -/

namespace Sys2Proof.Machine

/-! ## Dispatch -/

/-- Dispatch in one line: a push over a state in which only IME, IF and PC were written. -/
theorem State.dispatch_eq (s : State) (l : Line) :
    s.dispatch l = ((((s.setIme false).write8 Config.ifAddr (s.read8 Config.ifAddr &&& ~~~ l.mask)).push16
      s.pc).setPc l.vector) := rfl

@[simp] theorem State.dispatch_regs (s : State) (l : Line) : (s.dispatch l).regs = s.regs := rfl
@[simp] theorem State.dispatch_sp (s : State) (l : Line) : (s.dispatch l).sp = s.sp - 2 := rfl
@[simp] theorem State.dispatch_pc (s : State) (l : Line) : (s.dispatch l).pc = l.vector := rfl
@[simp] theorem State.dispatch_ime (s : State) (l : Line) : (s.dispatch l).ime = false := rfl
@[simp] theorem State.dispatch_halt (s : State) (l : Line) : (s.dispatch l).halt = s.halt := rfl
@[simp] theorem State.dispatch_ext (s : State) (l : Line) : (s.dispatch l).ext = s.ext := rfl
@[simp] theorem State.dispatch_cyc (s : State) (l : Line) : (s.dispatch l).cyc = s.cyc := rfl
@[simp] theorem State.dispatch_intDispatchTicks (s : State) (l : Line) :
    (s.dispatch l).intDispatchTicks = s.intDispatchTicks := rfl

/-- Every byte after a dispatch: the pushed PC wins over the write of IF where they meet (R285). -/
theorem State.read8_dispatch (s : State) (l : Line) (x : Word) (h : s.mem.isFlat = true) :
    (s.dispatch l).read8 x =
      if x = s.sp - 2 + 1 then hiByte s.pc else if x = s.sp - 2 then loByte s.pc
      else if x = Config.ifAddr then s.read8 Config.ifAddr &&& ~~~ l.mask else s.read8 x := by
  rw [State.dispatch_eq, State.read8_setPc, State.read8_push16 _ _ _ (by simpa using h),
    State.read8_write8 _ _ _ _ (by simpa using h)]; rfl

/-- The two writes of a dispatch, to whichever memory: IF, then the word pushed (R285, R53). -/
theorem State.dispatch_mem (s : State) (l : Line) :
    (s.dispatch l).mem = (s.mem.write Config.ifAddr (s.read8 Config.ifAddr &&& ~~~ l.mask)).writeWord (s.sp - 2)
      s.pc := rfl

/-- A pop right after a dispatch gives the PC pushed. -/
theorem State.popValue_dispatch (s : State) (l : Line) (h : s.mem.isFlat = true) :
    (s.dispatch l).popValue = s.pc := by
  rw [State.dispatch_eq]; exact State.popValue_push16 _ _ (by simpa using h)

theorem State.wf_dispatch (s : State) (l : Line) (h : s.mem.wf) : (s.dispatch l).mem.wf :=
  State.wf_push16 _ _ (State.wf_write8 _ _ _ h)

/-! ## The interrupt check and the step -/

/-- The check leaves the state, or dispatches the line found. -/
theorem State.interruptCheck_cases (s : State) :
    (s.firstDispatchable = none ∧ s.interruptCheck = s) ∨
    ∃ l, s.firstDispatchable = some l ∧ s.ime = true ∧
      s.interruptCheck = (s.dispatch l).addTicks s.intDispatchTicks := by
  unfold State.interruptCheck
  cases h : s.firstDispatchable with
  | none => exact .inl ⟨rfl, rfl⟩
  | some l =>
    refine .inr ⟨l, rfl, ?_, rfl⟩
    unfold State.firstDispatchable at h
    split at h <;> simp_all

/-- The fetch is what the decoder reads from the three bytes at PC. -/
theorem State.fetch_of_decode {s : State} {i : Instr} {rest : List Byte}
    (h : decode s.ext s.bytesAtPc = .ok (i, rest)) : s.fetch = i := by
  have e : s.read16 (s.pc + 1) = joinBytes (s.read8 (s.pc + 2)) (s.read8 (s.pc + 1)) := by
    unfold State.read16; rw [show s.pc + 1 + 1 = s.pc + 2 by bv_omega]
  unfold State.bytesAtPc at h
  rw [State.fetch, e, (Laws.entry_agrees s.ext (s.read8 s.pc) _ _).2.2.2.2]
  revert h; cases hf : Laws.entryFormat s.ext (s.read8 s.pc) <;> intro h
  case op1 => rw [Laws.decode_op1 _ _ _ (.inl hf)] at h; exact (Prod.mk.inj (Except.ok.inj h)).1
  case cb => rw [Laws.decode_op1 _ _ _ (.inr hf)] at h; exact (Prod.mk.inj (Except.ok.inj h)).1
  case op2n => rw [Laws.decode_op2 _ _ _ _ (.inl hf)] at h; exact (Prod.mk.inj (Except.ok.inj h)).1
  case op2e => rw [Laws.decode_op2 _ _ _ _ (.inr hf)] at h; exact (Prod.mk.inj (Except.ok.inj h)).1
  case op3 => rw [Laws.decode_op3 _ _ _ _ _ hf] at h; exact (Prod.mk.inj (Except.ok.inj h)).1

theorem step_halted (s : State) (h : s.halt = true) : step s = .next s.haltedStep := by simp [step, h]

theorem step_running (s : State) (h : s.halt = false) :
    step s = .next (s.interruptCheck.fetch.form.post (s.interruptCheck.setExt false)) := by
  simp [step, h, Laws.exec_eq]

/-- Everything a step can do. -/
theorem step_cases {s t : State} (h : step s = .next t) :
    (s.halt = true ∧ t = s.haltedStep) ∨
    (s.halt = false ∧ t = s.interruptCheck.fetch.form.post (s.interruptCheck.setExt false)) := by
  cases hh : s.halt with
  | true => rw [step_halted s hh] at h; exact .inl ⟨rfl, (Host.Outcome.next.inj h).symm⟩
  | false => rw [step_running s hh] at h; exact .inr ⟨rfl, (Host.Outcome.next.inj h).symm⟩

/-- A step always answers a next state (R93). -/
theorem step_total (s : State) : ∃ t, step s = .next t := by
  cases hh : s.halt with
  | true => exact ⟨_, step_halted s hh⟩
  | false => exact ⟨_, step_running s hh⟩

end Sys2Proof.Machine
end

