-- ==== Sys2Proof/Tests/Slice0.lean ====
section
/-! SUPPORT. Tests: the well-formedness smoke test, the decoding of every opcode byte of both tables, one-step
vectors of the spec, and a witness for every statement that has hypotheses. Every expected value is the spec's:
the opcode table, the encodings of the rules, and 95_test_vectors.md. -/

namespace Sys2Proof.Tests

open Sys2Proof.Machine Sys2Proof.Claims

/-- A state at `pc` with `bytes` there, SP = 0xD000, every register 0 (the vectors' default state). -/
def at_ (pc : Word) (bytes : List Byte) : State :=
  (bytes.foldl (fun (x : State × Word) b => (x.1.write8 x.2 b, x.2 + 1)) ((State.reset.setSp 0xD000).setPc pc, pc)).1

/-- One step answers a next state that satisfies the check. -/
def gives (s : State) (p : State → Bool) : Bool :=
  match step s with
  | .next t => p t
  | .fault _ | .refused _ => false

/-- The instruction decoded from bytes. -/
def decoded (ext : Bool) (bytes : List Byte) : Option Instr :=
  match decode ext bytes with
  | .ok (i, _) => some i
  | .error _ => none

/-! ## Well-formedness: the one check is the table an instruction stands in -/

theorem test_ill_formed_extended_entry_in_base_table : (Instr.rlc_b).wellFormed false = false := by decide
theorem test_ill_formed_base_entry_in_extended_table : (Instr.nop).wellFormed true = false := by decide
theorem test_ill_formed_prefix_in_extended_table : (Instr.prefix_cb).wellFormed true = false := by decide
theorem test_well_formed_base_entry : (Instr.ld_hl_nn 0xFFFF).wellFormed false = true := by decide
theorem test_well_formed_extended_entry : (Instr.set_7_a).wellFormed true = true := by decide

/-! ## Decoding: every byte of both tables, written out from the opcode table (R68, R69)

Each row gives the sixteen bytes of one high nibble, each followed by 0x34 0x12. -/

theorem test_decode_base_row_0 :
    [0x00, 0x01, 0x02, 0x03, 0x04, 0x05, 0x06, 0x07, 0x08, 0x09, 0x0A, 0x0B, 0x0C, 0x0D, 0x0E, 0x0F].map (fun b : Byte => decoded false [b, 0x34, 0x12]) =
    ([.nop, .ld_bc_nn 0x1234, .ld_at_bc_a, .inc_bc,
      .inc_b, .dec_b, .ld_b_n 0x34, .rlca,
      .ld_at_nn_sp 0x1234, .add_hl_bc, .ld_a_at_bc, .dec_bc,
      .inc_c, .dec_c, .ld_c_n 0x34, .rrca] : List Instr).map some := by decide

theorem test_decode_base_row_1 :
    [0x10, 0x11, 0x12, 0x13, 0x14, 0x15, 0x16, 0x17, 0x18, 0x19, 0x1A, 0x1B, 0x1C, 0x1D, 0x1E, 0x1F].map (fun b : Byte => decoded false [b, 0x34, 0x12]) =
    ([.stop 0x34, .ld_de_nn 0x1234, .ld_at_de_a, .inc_de,
      .inc_d, .dec_d, .ld_d_n 0x34, .rla,
      .jr_e 0x34, .add_hl_de, .ld_a_at_de, .dec_de,
      .inc_e, .dec_e, .ld_e_n 0x34, .rra] : List Instr).map some := by decide

theorem test_decode_base_row_2 :
    [0x20, 0x21, 0x22, 0x23, 0x24, 0x25, 0x26, 0x27, 0x28, 0x29, 0x2A, 0x2B, 0x2C, 0x2D, 0x2E, 0x2F].map (fun b : Byte => decoded false [b, 0x34, 0x12]) =
    ([.jr_nz_e 0x34, .ld_hl_nn 0x1234, .ld_at_hli_a, .inc_hl,
      .inc_h, .dec_h, .ld_h_n 0x34, .daa,
      .jr_z_e 0x34, .add_hl_hl, .ld_a_at_hli, .dec_hl,
      .inc_l, .dec_l, .ld_l_n 0x34, .cpl] : List Instr).map some := by decide

theorem test_decode_base_row_3 :
    [0x30, 0x31, 0x32, 0x33, 0x34, 0x35, 0x36, 0x37, 0x38, 0x39, 0x3A, 0x3B, 0x3C, 0x3D, 0x3E, 0x3F].map (fun b : Byte => decoded false [b, 0x34, 0x12]) =
    ([.jr_nc_e 0x34, .ld_sp_nn 0x1234, .ld_at_hld_a, .inc_sp,
      .inc_at_hl, .dec_at_hl, .ld_at_hl_n 0x34, .scf,
      .jr_c_e 0x34, .add_hl_sp, .ld_a_at_hld, .dec_sp,
      .inc_a, .dec_a, .ld_a_n 0x34, .ccf] : List Instr).map some := by decide

theorem test_decode_base_row_4 :
    [0x40, 0x41, 0x42, 0x43, 0x44, 0x45, 0x46, 0x47, 0x48, 0x49, 0x4A, 0x4B, 0x4C, 0x4D, 0x4E, 0x4F].map (fun b : Byte => decoded false [b, 0x34, 0x12]) =
    ([.ld_b_b, .ld_b_c, .ld_b_d, .ld_b_e,
      .ld_b_h, .ld_b_l, .ld_b_at_hl, .ld_b_a,
      .ld_c_b, .ld_c_c, .ld_c_d, .ld_c_e,
      .ld_c_h, .ld_c_l, .ld_c_at_hl, .ld_c_a] : List Instr).map some := by decide

theorem test_decode_base_row_5 :
    [0x50, 0x51, 0x52, 0x53, 0x54, 0x55, 0x56, 0x57, 0x58, 0x59, 0x5A, 0x5B, 0x5C, 0x5D, 0x5E, 0x5F].map (fun b : Byte => decoded false [b, 0x34, 0x12]) =
    ([.ld_d_b, .ld_d_c, .ld_d_d, .ld_d_e,
      .ld_d_h, .ld_d_l, .ld_d_at_hl, .ld_d_a,
      .ld_e_b, .ld_e_c, .ld_e_d, .ld_e_e,
      .ld_e_h, .ld_e_l, .ld_e_at_hl, .ld_e_a] : List Instr).map some := by decide

theorem test_decode_base_row_6 :
    [0x60, 0x61, 0x62, 0x63, 0x64, 0x65, 0x66, 0x67, 0x68, 0x69, 0x6A, 0x6B, 0x6C, 0x6D, 0x6E, 0x6F].map (fun b : Byte => decoded false [b, 0x34, 0x12]) =
    ([.ld_h_b, .ld_h_c, .ld_h_d, .ld_h_e,
      .ld_h_h, .ld_h_l, .ld_h_at_hl, .ld_h_a,
      .ld_l_b, .ld_l_c, .ld_l_d, .ld_l_e,
      .ld_l_h, .ld_l_l, .ld_l_at_hl, .ld_l_a] : List Instr).map some := by decide

theorem test_decode_base_row_7 :
    [0x70, 0x71, 0x72, 0x73, 0x74, 0x75, 0x76, 0x77, 0x78, 0x79, 0x7A, 0x7B, 0x7C, 0x7D, 0x7E, 0x7F].map (fun b : Byte => decoded false [b, 0x34, 0x12]) =
    ([.ld_at_hl_b, .ld_at_hl_c, .ld_at_hl_d, .ld_at_hl_e,
      .ld_at_hl_h, .ld_at_hl_l, .halt, .ld_at_hl_a,
      .ld_a_b, .ld_a_c, .ld_a_d, .ld_a_e,
      .ld_a_h, .ld_a_l, .ld_a_at_hl, .ld_a_a] : List Instr).map some := by decide

theorem test_decode_base_row_8 :
    [0x80, 0x81, 0x82, 0x83, 0x84, 0x85, 0x86, 0x87, 0x88, 0x89, 0x8A, 0x8B, 0x8C, 0x8D, 0x8E, 0x8F].map (fun b : Byte => decoded false [b, 0x34, 0x12]) =
    ([.add_a_b, .add_a_c, .add_a_d, .add_a_e,
      .add_a_h, .add_a_l, .add_a_at_hl, .add_a_a,
      .adc_a_b, .adc_a_c, .adc_a_d, .adc_a_e,
      .adc_a_h, .adc_a_l, .adc_a_at_hl, .adc_a_a] : List Instr).map some := by decide

theorem test_decode_base_row_9 :
    [0x90, 0x91, 0x92, 0x93, 0x94, 0x95, 0x96, 0x97, 0x98, 0x99, 0x9A, 0x9B, 0x9C, 0x9D, 0x9E, 0x9F].map (fun b : Byte => decoded false [b, 0x34, 0x12]) =
    ([.sub_b, .sub_c, .sub_d, .sub_e,
      .sub_h, .sub_l, .sub_at_hl, .sub_a,
      .sbc_a_b, .sbc_a_c, .sbc_a_d, .sbc_a_e,
      .sbc_a_h, .sbc_a_l, .sbc_a_at_hl, .sbc_a_a] : List Instr).map some := by decide

theorem test_decode_base_row_A :
    [0xA0, 0xA1, 0xA2, 0xA3, 0xA4, 0xA5, 0xA6, 0xA7, 0xA8, 0xA9, 0xAA, 0xAB, 0xAC, 0xAD, 0xAE, 0xAF].map (fun b : Byte => decoded false [b, 0x34, 0x12]) =
    ([.and_b, .and_c, .and_d, .and_e,
      .and_h, .and_l, .and_at_hl, .and_a,
      .xor_b, .xor_c, .xor_d, .xor_e,
      .xor_h, .xor_l, .xor_at_hl, .xor_a] : List Instr).map some := by decide

theorem test_decode_base_row_B :
    [0xB0, 0xB1, 0xB2, 0xB3, 0xB4, 0xB5, 0xB6, 0xB7, 0xB8, 0xB9, 0xBA, 0xBB, 0xBC, 0xBD, 0xBE, 0xBF].map (fun b : Byte => decoded false [b, 0x34, 0x12]) =
    ([.or_b, .or_c, .or_d, .or_e,
      .or_h, .or_l, .or_at_hl, .or_a,
      .cp_b, .cp_c, .cp_d, .cp_e,
      .cp_h, .cp_l, .cp_at_hl, .cp_a] : List Instr).map some := by decide

theorem test_decode_base_row_C :
    [0xC0, 0xC1, 0xC2, 0xC3, 0xC4, 0xC5, 0xC6, 0xC7, 0xC8, 0xC9, 0xCA, 0xCB, 0xCC, 0xCD, 0xCE, 0xCF].map (fun b : Byte => decoded false [b, 0x34, 0x12]) =
    ([.ret_nz, .pop_bc, .jp_nz_nn 0x1234, .jp_nn 0x1234,
      .call_nz_nn 0x1234, .push_bc, .add_a_n 0x34, .rst_00,
      .ret_z, .ret, .jp_z_nn 0x1234, .prefix_cb,
      .call_z_nn 0x1234, .call_nn 0x1234, .adc_a_n 0x34, .rst_08] : List Instr).map some := by decide

theorem test_decode_base_row_D :
    [0xD0, 0xD1, 0xD2, 0xD3, 0xD4, 0xD5, 0xD6, 0xD7, 0xD8, 0xD9, 0xDA, 0xDB, 0xDC, 0xDD, 0xDE, 0xDF].map (fun b : Byte => decoded false [b, 0x34, 0x12]) =
    ([.ret_nc, .pop_de, .jp_nc_nn 0x1234, .undef_d3,
      .call_nc_nn 0x1234, .push_de, .sub_n 0x34, .rst_10,
      .ret_c, .reti, .jp_c_nn 0x1234, .undef_db,
      .call_c_nn 0x1234, .undef_dd, .sbc_a_n 0x34, .rst_18] : List Instr).map some := by decide

theorem test_decode_base_row_E :
    [0xE0, 0xE1, 0xE2, 0xE3, 0xE4, 0xE5, 0xE6, 0xE7, 0xE8, 0xE9, 0xEA, 0xEB, 0xEC, 0xED, 0xEE, 0xEF].map (fun b : Byte => decoded false [b, 0x34, 0x12]) =
    ([.ldh_at_n_a 0x34, .pop_hl, .ldh_at_c_a, .undef_e3,
      .undef_e4, .push_hl, .and_n 0x34, .rst_20,
      .add_sp_e 0x34, .jp_hl, .ld_at_nn_a 0x1234, .undef_eb,
      .undef_ec, .undef_ed, .xor_n 0x34, .rst_28] : List Instr).map some := by decide

theorem test_decode_base_row_F :
    [0xF0, 0xF1, 0xF2, 0xF3, 0xF4, 0xF5, 0xF6, 0xF7, 0xF8, 0xF9, 0xFA, 0xFB, 0xFC, 0xFD, 0xFE, 0xFF].map (fun b : Byte => decoded false [b, 0x34, 0x12]) =
    ([.ldh_a_at_n 0x34, .pop_af, .ldh_a_at_c, .di,
      .undef_f4, .push_af, .or_n 0x34, .rst_30,
      .ld_hl_sp_e 0x34, .ld_sp_hl, .ld_a_at_nn 0x1234, .ei,
      .undef_fc, .undef_fd, .cp_n 0x34, .rst_38] : List Instr).map some := by decide

theorem test_decode_ext_row_0 :
    [0x00, 0x01, 0x02, 0x03, 0x04, 0x05, 0x06, 0x07, 0x08, 0x09, 0x0A, 0x0B, 0x0C, 0x0D, 0x0E, 0x0F].map (fun b : Byte => decoded true [b, 0x34, 0x12]) =
    ([.rlc_b, .rlc_c, .rlc_d, .rlc_e,
      .rlc_h, .rlc_l, .rlc_at_hl, .rlc_a,
      .rrc_b, .rrc_c, .rrc_d, .rrc_e,
      .rrc_h, .rrc_l, .rrc_at_hl, .rrc_a] : List Instr).map some := by decide

theorem test_decode_ext_row_1 :
    [0x10, 0x11, 0x12, 0x13, 0x14, 0x15, 0x16, 0x17, 0x18, 0x19, 0x1A, 0x1B, 0x1C, 0x1D, 0x1E, 0x1F].map (fun b : Byte => decoded true [b, 0x34, 0x12]) =
    ([.rl_b, .rl_c, .rl_d, .rl_e,
      .rl_h, .rl_l, .rl_at_hl, .rl_a,
      .rr_b, .rr_c, .rr_d, .rr_e,
      .rr_h, .rr_l, .rr_at_hl, .rr_a] : List Instr).map some := by decide

theorem test_decode_ext_row_2 :
    [0x20, 0x21, 0x22, 0x23, 0x24, 0x25, 0x26, 0x27, 0x28, 0x29, 0x2A, 0x2B, 0x2C, 0x2D, 0x2E, 0x2F].map (fun b : Byte => decoded true [b, 0x34, 0x12]) =
    ([.sla_b, .sla_c, .sla_d, .sla_e,
      .sla_h, .sla_l, .sla_at_hl, .sla_a,
      .sra_b, .sra_c, .sra_d, .sra_e,
      .sra_h, .sra_l, .sra_at_hl, .sra_a] : List Instr).map some := by decide

theorem test_decode_ext_row_3 :
    [0x30, 0x31, 0x32, 0x33, 0x34, 0x35, 0x36, 0x37, 0x38, 0x39, 0x3A, 0x3B, 0x3C, 0x3D, 0x3E, 0x3F].map (fun b : Byte => decoded true [b, 0x34, 0x12]) =
    ([.swap_b, .swap_c, .swap_d, .swap_e,
      .swap_h, .swap_l, .swap_at_hl, .swap_a,
      .srl_b, .srl_c, .srl_d, .srl_e,
      .srl_h, .srl_l, .srl_at_hl, .srl_a] : List Instr).map some := by decide

theorem test_decode_ext_row_4 :
    [0x40, 0x41, 0x42, 0x43, 0x44, 0x45, 0x46, 0x47, 0x48, 0x49, 0x4A, 0x4B, 0x4C, 0x4D, 0x4E, 0x4F].map (fun b : Byte => decoded true [b, 0x34, 0x12]) =
    ([.bit_0_b, .bit_0_c, .bit_0_d, .bit_0_e,
      .bit_0_h, .bit_0_l, .bit_0_at_hl, .bit_0_a,
      .bit_1_b, .bit_1_c, .bit_1_d, .bit_1_e,
      .bit_1_h, .bit_1_l, .bit_1_at_hl, .bit_1_a] : List Instr).map some := by decide

theorem test_decode_ext_row_5 :
    [0x50, 0x51, 0x52, 0x53, 0x54, 0x55, 0x56, 0x57, 0x58, 0x59, 0x5A, 0x5B, 0x5C, 0x5D, 0x5E, 0x5F].map (fun b : Byte => decoded true [b, 0x34, 0x12]) =
    ([.bit_2_b, .bit_2_c, .bit_2_d, .bit_2_e,
      .bit_2_h, .bit_2_l, .bit_2_at_hl, .bit_2_a,
      .bit_3_b, .bit_3_c, .bit_3_d, .bit_3_e,
      .bit_3_h, .bit_3_l, .bit_3_at_hl, .bit_3_a] : List Instr).map some := by decide

theorem test_decode_ext_row_6 :
    [0x60, 0x61, 0x62, 0x63, 0x64, 0x65, 0x66, 0x67, 0x68, 0x69, 0x6A, 0x6B, 0x6C, 0x6D, 0x6E, 0x6F].map (fun b : Byte => decoded true [b, 0x34, 0x12]) =
    ([.bit_4_b, .bit_4_c, .bit_4_d, .bit_4_e,
      .bit_4_h, .bit_4_l, .bit_4_at_hl, .bit_4_a,
      .bit_5_b, .bit_5_c, .bit_5_d, .bit_5_e,
      .bit_5_h, .bit_5_l, .bit_5_at_hl, .bit_5_a] : List Instr).map some := by decide

theorem test_decode_ext_row_7 :
    [0x70, 0x71, 0x72, 0x73, 0x74, 0x75, 0x76, 0x77, 0x78, 0x79, 0x7A, 0x7B, 0x7C, 0x7D, 0x7E, 0x7F].map (fun b : Byte => decoded true [b, 0x34, 0x12]) =
    ([.bit_6_b, .bit_6_c, .bit_6_d, .bit_6_e,
      .bit_6_h, .bit_6_l, .bit_6_at_hl, .bit_6_a,
      .bit_7_b, .bit_7_c, .bit_7_d, .bit_7_e,
      .bit_7_h, .bit_7_l, .bit_7_at_hl, .bit_7_a] : List Instr).map some := by decide

theorem test_decode_ext_row_8 :
    [0x80, 0x81, 0x82, 0x83, 0x84, 0x85, 0x86, 0x87, 0x88, 0x89, 0x8A, 0x8B, 0x8C, 0x8D, 0x8E, 0x8F].map (fun b : Byte => decoded true [b, 0x34, 0x12]) =
    ([.res_0_b, .res_0_c, .res_0_d, .res_0_e,
      .res_0_h, .res_0_l, .res_0_at_hl, .res_0_a,
      .res_1_b, .res_1_c, .res_1_d, .res_1_e,
      .res_1_h, .res_1_l, .res_1_at_hl, .res_1_a] : List Instr).map some := by decide

theorem test_decode_ext_row_9 :
    [0x90, 0x91, 0x92, 0x93, 0x94, 0x95, 0x96, 0x97, 0x98, 0x99, 0x9A, 0x9B, 0x9C, 0x9D, 0x9E, 0x9F].map (fun b : Byte => decoded true [b, 0x34, 0x12]) =
    ([.res_2_b, .res_2_c, .res_2_d, .res_2_e,
      .res_2_h, .res_2_l, .res_2_at_hl, .res_2_a,
      .res_3_b, .res_3_c, .res_3_d, .res_3_e,
      .res_3_h, .res_3_l, .res_3_at_hl, .res_3_a] : List Instr).map some := by decide

theorem test_decode_ext_row_A :
    [0xA0, 0xA1, 0xA2, 0xA3, 0xA4, 0xA5, 0xA6, 0xA7, 0xA8, 0xA9, 0xAA, 0xAB, 0xAC, 0xAD, 0xAE, 0xAF].map (fun b : Byte => decoded true [b, 0x34, 0x12]) =
    ([.res_4_b, .res_4_c, .res_4_d, .res_4_e,
      .res_4_h, .res_4_l, .res_4_at_hl, .res_4_a,
      .res_5_b, .res_5_c, .res_5_d, .res_5_e,
      .res_5_h, .res_5_l, .res_5_at_hl, .res_5_a] : List Instr).map some := by decide

theorem test_decode_ext_row_B :
    [0xB0, 0xB1, 0xB2, 0xB3, 0xB4, 0xB5, 0xB6, 0xB7, 0xB8, 0xB9, 0xBA, 0xBB, 0xBC, 0xBD, 0xBE, 0xBF].map (fun b : Byte => decoded true [b, 0x34, 0x12]) =
    ([.res_6_b, .res_6_c, .res_6_d, .res_6_e,
      .res_6_h, .res_6_l, .res_6_at_hl, .res_6_a,
      .res_7_b, .res_7_c, .res_7_d, .res_7_e,
      .res_7_h, .res_7_l, .res_7_at_hl, .res_7_a] : List Instr).map some := by decide

theorem test_decode_ext_row_C :
    [0xC0, 0xC1, 0xC2, 0xC3, 0xC4, 0xC5, 0xC6, 0xC7, 0xC8, 0xC9, 0xCA, 0xCB, 0xCC, 0xCD, 0xCE, 0xCF].map (fun b : Byte => decoded true [b, 0x34, 0x12]) =
    ([.set_0_b, .set_0_c, .set_0_d, .set_0_e,
      .set_0_h, .set_0_l, .set_0_at_hl, .set_0_a,
      .set_1_b, .set_1_c, .set_1_d, .set_1_e,
      .set_1_h, .set_1_l, .set_1_at_hl, .set_1_a] : List Instr).map some := by decide

theorem test_decode_ext_row_D :
    [0xD0, 0xD1, 0xD2, 0xD3, 0xD4, 0xD5, 0xD6, 0xD7, 0xD8, 0xD9, 0xDA, 0xDB, 0xDC, 0xDD, 0xDE, 0xDF].map (fun b : Byte => decoded true [b, 0x34, 0x12]) =
    ([.set_2_b, .set_2_c, .set_2_d, .set_2_e,
      .set_2_h, .set_2_l, .set_2_at_hl, .set_2_a,
      .set_3_b, .set_3_c, .set_3_d, .set_3_e,
      .set_3_h, .set_3_l, .set_3_at_hl, .set_3_a] : List Instr).map some := by decide

theorem test_decode_ext_row_E :
    [0xE0, 0xE1, 0xE2, 0xE3, 0xE4, 0xE5, 0xE6, 0xE7, 0xE8, 0xE9, 0xEA, 0xEB, 0xEC, 0xED, 0xEE, 0xEF].map (fun b : Byte => decoded true [b, 0x34, 0x12]) =
    ([.set_4_b, .set_4_c, .set_4_d, .set_4_e,
      .set_4_h, .set_4_l, .set_4_at_hl, .set_4_a,
      .set_5_b, .set_5_c, .set_5_d, .set_5_e,
      .set_5_h, .set_5_l, .set_5_at_hl, .set_5_a] : List Instr).map some := by decide

theorem test_decode_ext_row_F :
    [0xF0, 0xF1, 0xF2, 0xF3, 0xF4, 0xF5, 0xF6, 0xF7, 0xF8, 0xF9, 0xFA, 0xFB, 0xFC, 0xFD, 0xFE, 0xFF].map (fun b : Byte => decoded true [b, 0x34, 0x12]) =
    ([.set_6_b, .set_6_c, .set_6_d, .set_6_e,
      .set_6_h, .set_6_l, .set_6_at_hl, .set_6_a,
      .set_7_b, .set_7_c, .set_7_d, .set_7_e,
      .set_7_h, .set_7_l, .set_7_at_hl, .set_7_a] : List Instr).map some := by decide

/-! Words written bit by bit from the rules' encodings, one family each, and the encoder's answer. -/

/-- R100: `01 yyy zzz`, `LD D,E`. -/
theorem test_bits_ld_d_e : decoded false [0b01010011] = some .ld_d_e ∧ encode .ld_d_e = [0b01010011] := by decide
/-- R132: `00 pp0 001`, the operand word little-endian. -/
theorem test_bits_ld_sp_nn : decoded false [0b00110001, 0xFE, 0xFF] = some (.ld_sp_nn 0xFFFE) ∧
    encode (.ld_sp_nn 0xFFFE) = [0b00110001, 0xFE, 0xFF] := by decide
/-- R136: `11 pp0 101`, `PUSH AF`. -/
theorem test_bits_push_af : decoded false [0b11110101] = some .push_af ∧ encode .push_af = [0b11110101] := by decide
/-- R171: `11 011 110`, `SBC A,n`. -/
theorem test_bits_sbc_a_n : decoded false [0b11011110, 0x3A] = some (.sbc_a_n 0x3A) ∧
    encode (.sbc_a_n 0x3A) = [0b11011110, 0x3A] := by decide
/-- R203: `00 pp1 011`, `DEC SP`. -/
theorem test_bits_dec_sp : decoded false [0b00111011] = some .dec_sp ∧ encode .dec_sp = [0b00111011] := by decide
/-- R241: `01 bbb zzz`, `BIT 5,L`. -/
theorem test_bits_bit_5_l : decoded true [0b01101101] = some .bit_5_l ∧ encode .bit_5_l = [0b01101101] := by decide
/-- R239: `00 111 zzz`, `SRL C`. -/
theorem test_bits_srl_c : decoded true [0b00111001] = some .srl_c ∧ encode .srl_c = [0b00111001] := by decide
/-- R255: `00 1cc 000`, `JR C,-2`. -/
theorem test_bits_jr_c : decoded false [0b00111000, 0xFE] = some (.jr_c_e 0xFE) ∧
    encode (.jr_c_e 0xFE) = [0b00111000, 0xFE] := by decide
/-- R261: `11 yyy 111`, `RST 30H`. -/
theorem test_bits_rst_30 : decoded false [0b11110111] = some .rst_30 ∧ encode .rst_30 = [0b11110111] := by decide
/-- R76: bytes that end too early are the only ones that do not decode. -/
theorem test_truncated : decoded false [0xC3, 0x34] = none ∧ decoded false [] = none := by decide
/-- An opcode byte alone is looked up in the base table, the two-byte spelling in the extended one (log 11). -/
theorem test_table_word : decodeTableWord 8 0x37 = some .scf ∧ decodeTableWord 16 0x37CB = some .swap_a ∧
    decodeTableWord 8 0xCB = some .prefix_cb ∧ decodeTableWord 24 0x123421 = some (.ld_hl_nn 0x1234) := by decide
/-- `withFetchWord` on another memory collaborator puts the reference memory in its place (log 10). -/
theorem test_with_fetch_word_other_memory :
    gives (State.withFetchWord { State.reset with mem := .other 3 } 8 0x37) (fun t => t.reg .f == 0x10) = true := by decide
/-- `withFetchWord` makes the next step run the instruction, of either table. -/
theorem test_with_fetch_word :
    gives (State.reset.withFetchWord 8 0x37) (fun t => t.reg .f == 0x10 && t.pc == 1) = true ∧
    gives ((State.reset.setReg .a 0xF1).withFetchWord 16 0x37CB) (fun t => t.reg .a == 0x1F && t.pc == 1) = true := by
  decide

/-! ## One-step vectors of 95_test_vectors.md part 2, named by instruction and vector

Expected values are the spec's. For an extended instruction the step is the second one, with EXT = 1. -/

/-- V-LD8-1: LD B,C (R100). -/
theorem test_ld_b_c_v_ld8_1 :
    gives ((at_ 0x0100 [0x41]).setReg .c 0x5A)
      (fun t => t.reg .f == 0x00 && t.reg .b == 0x5A && t.pc == 0x0101 && t.cyc == 4) = true := by decide

/-- V-LD8-4: LD H,(HL): address from the old HL (R102). -/
theorem test_ld_h_at_hl_v_ld8_4 :
    gives (((at_ 0x0100 [0x66]).setReg .h 0xC0).write8 0xC000 0x12)
      (fun t => t.reg .f == 0x00 && t.reg .h == 0x12 && t.pc == 0x0101 && t.cyc == 8) = true := by decide

/-- V-LD8-5: LD (HL),L stores the low address byte (R103). -/
theorem test_ld_at_hl_l_v_ld8_5 :
    gives (((at_ 0x0100 [0x75]).setReg .h 0xC0).setReg .l 0xA5)
      (fun t => t.reg .f == 0x00 && t.pc == 0x0101 && t.read8 0xC0A5 == 0xA5 && t.cyc == 8) = true := by decide

/-- V-LD8-7: LD A,(BC) (R105). -/
theorem test_ld_a_at_bc_v_ld8_7 :
    gives ((((at_ 0x0100 [0x0A]).setReg .b 0xC0).setReg .c 0x10).write8 0xC010 0x07)
      (fun t => t.reg .a == 0x07 && t.reg .f == 0x00 && t.pc == 0x0101 && t.cyc == 8) = true := by decide

/-- V-LD8-8: LD (DE),A (R108). -/
theorem test_ld_at_de_a_v_ld8_8 :
    gives ((((at_ 0x0100 [0x12]).setReg .a 0x44).setReg .d 0xC0).setReg .e 0x21)
      (fun t => t.reg .f == 0x00 && t.pc == 0x0101 && t.read8 0xC021 == 0x44 && t.cyc == 8) = true := by decide

/-- V-LD8-10: operands wrap: opcode at 0xFFFE, nn low at 0xFFFF, nn high at 0x0000 (R109, R44). -/
theorem test_ld_a_at_nn_v_ld8_10 :
    gives ((at_ 0xFFFE [0xFA, 0x34, 0x12]).write8 0x1234 0x56)
      (fun t => t.reg .a == 0x56 && t.reg .f == 0x00 && t.pc == 0x0001 && t.cyc == 16) = true := by decide

/-- V-LD8-11: LD (0xFF0F),A writes IF (R110, R22). -/
theorem test_ld_at_nn_a_v_ld8_11 :
    gives ((at_ 0x0100 [0xEA, 0x0F, 0xFF]).setReg .a 0x05)
      (fun t => t.reg .f == 0x00 && t.pc == 0x0103 && t.read8 0xFF0F == 0x05 && t.cyc == 16) = true := by decide

/-- V-LD8-14: LDH A,(C): one byte long (R113). -/
theorem test_ldh_a_at_c_v_ld8_14 :
    gives (((at_ 0x0100 [0xF2]).setReg .c 0x81).write8 0xFF81 0x3C)
      (fun t => t.reg .a == 0x3C && t.reg .f == 0x00 && t.pc == 0x0101 && t.cyc == 8) = true := by decide

/-- V-LD8-15: LDH (C),A (R114). -/
theorem test_ldh_at_c_a_v_ld8_15 :
    gives (((at_ 0x0100 [0xE2]).setReg .a 0x5D).setReg .c 0x82)
      (fun t => t.reg .f == 0x00 && t.pc == 0x0101 && t.read8 0xFF82 == 0x5D && t.cyc == 8) = true := by decide

/-- V-LD8-16: LD (HL+),A with HL = 0xFFFF: writes IE, HL wraps to 0 (R115). -/
theorem test_ld_at_hli_a_v_ld8_16 :
    gives ((((at_ 0x0100 [0x22]).setReg .a 0x01).setReg .h 0xFF).setReg .l 0xFF)
      (fun t => t.reg .f == 0x00 && t.reg .h == 0x00 && t.reg .l == 0x00 && t.pc == 0x0101 && t.read8 0xFFFF == 0x01 && t.cyc == 8) = true := by decide

/-- V-LD8-18: LD (HL-),A with HL = 0x0000: HL wraps to 0xFFFF (R117). -/
theorem test_ld_at_hld_a_v_ld8_18 :
    gives ((at_ 0x0100 [0x32]).setReg .a 0x02)
      (fun t => t.reg .f == 0x00 && t.reg .h == 0xFF && t.reg .l == 0xFF && t.pc == 0x0101 && t.read8 0x0000 == 0x02 && t.cyc == 8) = true := by decide

/-- V-LD16-1: LD HL,0x1234 (source scenario, section 8 bullet 6) (R132). -/
theorem test_ld_hl_nn_v_ld16_1 :
    gives (at_ 0x0100 [0x21, 0x34, 0x12])
      (fun t => t.reg .f == 0x00 && t.reg .h == 0x12 && t.reg .l == 0x34 && t.pc == 0x0103 && t.cyc == 12) = true := by decide

/-- V-LD16-5: LD (0xFFFF),SP: high byte wraps to 0x0000 (R133, R44). -/
theorem test_ld_at_nn_sp_v_ld16_5 :
    gives ((at_ 0x0100 [0x08, 0xFF, 0xFF]).setSp 0xABCD)
      (fun t => t.reg .f == 0x00 && t.pc == 0x0103 && t.read8 0x0000 == 0xAB && t.read8 0xFFFF == 0xCD && t.cyc == 20) = true := by decide

/-- V-LD16-6: LD SP,HL (R134). -/
theorem test_ld_sp_hl_v_ld16_6 :
    gives (((at_ 0x0100 [0xF9]).setReg .h 0xCF).setReg .l 0xF0)
      (fun t => t.reg .f == 0x00 && t.sp == 0xCFF0 && t.pc == 0x0101 && t.cyc == 8) = true := by decide

/-- V-LD16-9: LD HL,SP-1 with SP = 0x0001: both carries, Z stays 0 (R135, R200). -/
theorem test_ld_hl_sp_e_v_ld16_9 :
    gives ((at_ 0x0100 [0xF8, 0xFF]).setSp 0x0001)
      (fun t => t.reg .f == 0x30 && t.pc == 0x0102 && t.cyc == 12) = true := by decide

/-- V-LD16-12: PUSH BC with SP = 0: high byte lands in IE (R136, R312). -/
theorem test_push_bc_v_ld16_12 :
    gives ((((at_ 0x0100 [0xC5]).setReg .b 0x1F).setReg .c 0x34).setSp 0x0000)
      (fun t => t.reg .f == 0x00 && t.sp == 0xFFFE && t.pc == 0x0101 && t.read8 0xFFFE == 0x34 && t.read8 0xFFFF == 0x1F && t.cyc == 16) = true := by decide

/-- V-LD16-14: POP HL with SP = 0xFFFF: high byte read from 0x0000, SP wraps to 1 (R137, R131). -/
theorem test_pop_hl_v_ld16_14 :
    gives ((((at_ 0x0100 [0xE1]).setSp 0xFFFF).write8 0x0000 0x12).write8 0xFFFF 0x34)
      (fun t => t.reg .f == 0x00 && t.reg .h == 0x12 && t.reg .l == 0x34 && t.sp == 0x0001 && t.pc == 0x0101 && t.cyc == 12) = true := by decide

/-- V-LD16-15: POP AF: low nibble of F discarded (R138, R15). -/
theorem test_pop_af_v_ld16_15 :
    gives ((((at_ 0x0100 [0xF1]).setSp 0xCFFE).write8 0xCFFE 0xFF).write8 0xCFFF 0x12)
      (fun t => t.reg .a == 0x12 && t.reg .f == 0xF0 && t.sp == 0xD000 && t.pc == 0x0101 && t.cyc == 12) = true := by decide

/-- V-ALU8-1: ADD A,A (source scenario, section 8 bullet 7) (R160, R150). -/
theorem test_add_a_a_v_alu8_1 :
    gives ((at_ 0x0100 [0x87]).setReg .a 0x0F)
      (fun t => t.reg .a == 0x1E && t.reg .f == 0x20 && t.pc == 0x0101 && t.cyc == 4) = true := by decide

/-- V-ALU8-2: 0xFF + 1: Z, H, C (R162). -/
theorem test_add_a_n_v_alu8_2 :
    gives ((at_ 0x0100 [0xC6, 0x01]).setReg .a 0xFF)
      (fun t => t.reg .a == 0x00 && t.reg .f == 0xB0 && t.pc == 0x0102 && t.cyc == 8) = true := by decide

/-- V-ALU8-5: ADC: 0xFF + 0 + C (R165, R151). -/
theorem test_adc_a_n_v_alu8_5 :
    gives (((at_ 0x0100 [0xCE, 0x00]).setReg .a 0xFF).setReg .f 0x10)
      (fun t => t.reg .a == 0x00 && t.reg .f == 0xB0 && t.pc == 0x0102 && t.cyc == 8) = true := by decide

/-- V-ALU8-6: ADC: carry-in counts in the half-carry test (R165, R151). -/
theorem test_adc_a_n_v_alu8_6 :
    gives ((at_ 0x0100 [0xCE, 0x0F]).setReg .f 0x10)
      (fun t => t.reg .a == 0x10 && t.reg .f == 0x20 && t.pc == 0x0102 && t.cyc == 8) = true := by decide

/-- V-ALU8-8: SUB: 0 - 1 borrows (R168, R152). -/
theorem test_sub_n_v_alu8_8 :
    gives (at_ 0x0100 [0xD6, 0x01])
      (fun t => t.reg .a == 0xFF && t.reg .f == 0x70 && t.pc == 0x0102 && t.cyc == 8) = true := by decide

/-- V-ALU8-11: SBC: 0 - 0xFF - 1 = -256: result 0x00, Z, H, C (full precision) (R171, R153). -/
theorem test_sbc_a_n_v_alu8_11 :
    gives ((at_ 0x0100 [0xDE, 0xFF]).setReg .f 0x10)
      (fun t => t.reg .f == 0xF0 && t.pc == 0x0102 && t.cyc == 8) = true := by decide

/-- V-ALU8-12: SBC A,A with C = 1 gives 0xFF (R169, R153). -/
theorem test_sbc_a_a_v_alu8_12 :
    gives (((at_ 0x0100 [0x9F]).setReg .a 0x42).setReg .f 0x10)
      (fun t => t.reg .a == 0xFF && t.reg .f == 0x70 && t.pc == 0x0101 && t.cyc == 4) = true := by decide

/-- V-ALU8-13: SBC A,A with C = 0 gives 0x00 (R169). -/
theorem test_sbc_a_a_v_alu8_13 :
    gives ((at_ 0x0100 [0x9F]).setReg .a 0x42)
      (fun t => t.reg .a == 0x00 && t.reg .f == 0xC0 && t.pc == 0x0101 && t.cyc == 4) = true := by decide

/-- V-ALU8-15: CP: A unchanged, C = A < n (R183, R157). -/
theorem test_cp_n_v_alu8_15 :
    gives ((at_ 0x0100 [0xFE, 0x40]).setReg .a 0x3C)
      (fun t => t.reg .f == 0x50 && t.pc == 0x0102 && t.cyc == 8) = true := by decide

/-- V-ALU8-17: AND to zero: Z and H (R174, R154). -/
theorem test_and_n_v_alu8_17 :
    gives (((at_ 0x0100 [0xE6, 0x0F]).setReg .a 0xF0).setReg .f 0x10)
      (fun t => t.reg .a == 0x00 && t.reg .f == 0xA0 && t.pc == 0x0102 && t.cyc == 8) = true := by decide

/-- V-ALU8-20: INC B 0x0F: H; C kept (R184, R158). -/
theorem test_inc_b_v_alu8_20 :
    gives (((at_ 0x0100 [0x04]).setReg .f 0x10).setReg .b 0x0F)
      (fun t => t.reg .f == 0x30 && t.reg .b == 0x10 && t.pc == 0x0101 && t.cyc == 4) = true := by decide

/-- V-ALU8-23: DEC B 0x00: wraps, H; C kept (R186). -/
theorem test_dec_b_v_alu8_23 :
    gives ((at_ 0x0100 [0x05]).setReg .f 0x10)
      (fun t => t.reg .f == 0x70 && t.reg .b == 0xFF && t.pc == 0x0101 && t.cyc == 4) = true := by decide

/-- V-ALU8-25: INC (HL) (R185). -/
theorem test_inc_at_hl_v_alu8_25 :
    gives (((at_ 0x0100 [0x34]).setReg .h 0xC0).write8 0xC000 0xFF)
      (fun t => t.reg .f == 0xA0 && t.pc == 0x0101 && t.read8 0xC000 == 0x00 && t.cyc == 12) = true := by decide

/-- V-ALU8-29: DAA after add with H: 0x99+0x09 = 0xA2 H (R188). -/
theorem test_daa_v_alu8_29 :
    gives (((at_ 0x0100 [0x27]).setReg .a 0xA2).setReg .f 0x20)
      (fun t => t.reg .a == 0x08 && t.reg .f == 0x10 && t.pc == 0x0101 && t.cyc == 4) = true := by decide

/-- V-ALU8-31: DAA after sub: 0x42-0x05 = 0x3D N H (R188). -/
theorem test_daa_v_alu8_31 :
    gives (((at_ 0x0100 [0x27]).setReg .a 0x3D).setReg .f 0x60)
      (fun t => t.reg .a == 0x37 && t.reg .f == 0x40 && t.pc == 0x0101 && t.cyc == 4) = true := by decide

/-- V-ALU8-34: CPL: Z and C kept (R189). -/
theorem test_cpl_v_alu8_34 :
    gives (((at_ 0x0100 [0x2F]).setReg .a 0x35).setReg .f 0x90)
      (fun t => t.reg .a == 0xCA && t.reg .f == 0xF0 && t.pc == 0x0101 && t.cyc == 4) = true := by decide

/-- V-ALU8-35: SCF: Z kept (R190). -/
theorem test_scf_v_alu8_35 :
    gives ((at_ 0x0100 [0x37]).setReg .f 0xE0)
      (fun t => t.reg .f == 0x90 && t.pc == 0x0101 && t.cyc == 4) = true := by decide

/-- V-ALU8-36: CCF: C 1 to 0 (R191). -/
theorem test_ccf_v_alu8_36 :
    gives ((at_ 0x0100 [0x3F]).setReg .f 0xF0)
      (fun t => t.reg .f == 0x80 && t.pc == 0x0101 && t.cyc == 4) = true := by decide

/-- V-ALU16-2: ADD HL,HL 0x8000: result 0, C, Z unaffected (stays 0) (R201). -/
theorem test_add_hl_hl_v_alu16_2 :
    gives ((at_ 0x0100 [0x29]).setReg .h 0x80)
      (fun t => t.reg .f == 0x10 && t.reg .h == 0x00 && t.pc == 0x0101 && t.cyc == 8) = true := by decide

/-- V-ALU16-3: 0x0FFF + 1: H only; Z unaffected (stays 1) (R201). -/
theorem test_add_hl_de_v_alu16_3 :
    gives (((((at_ 0x0100 [0x19]).setReg .f 0x80).setReg .e 0x01).setReg .h 0x0F).setReg .l 0xFF)
      (fun t => t.reg .f == 0xA0 && t.reg .h == 0x10 && t.reg .l == 0x00 && t.pc == 0x0101 && t.cyc == 8) = true := by decide

/-- V-ALU16-5: INC SP wraps, no flags (R202). -/
theorem test_inc_sp_v_alu16_5 :
    gives (((at_ 0x0100 [0x33]).setReg .f 0xF0).setSp 0xFFFF)
      (fun t => t.reg .f == 0xF0 && t.sp == 0x0000 && t.pc == 0x0101 && t.cyc == 8) = true := by decide

/-- V-ALU16-6: DEC HL wraps, no flags (R203). -/
theorem test_dec_hl_v_alu16_6 :
    gives (at_ 0x0100 [0x2B])
      (fun t => t.reg .f == 0x00 && t.reg .h == 0xFF && t.reg .l == 0xFF && t.pc == 0x0101 && t.cyc == 8) = true := by decide

/-- V-ALU16-10: ADD SP,-1 at 0x0001: result 0, Z = 0, H, C (R204, R200). -/
theorem test_add_sp_e_v_alu16_10 :
    gives ((at_ 0x0100 [0xE8, 0xFF]).setSp 0x0001)
      (fun t => t.reg .f == 0x30 && t.sp == 0x0000 && t.pc == 0x0102 && t.cyc == 16) = true := by decide

/-- V-ROT-2: RLCA of 0x00: Z forced 0 (R221). -/
theorem test_rlca_v_rot_2 :
    gives ((at_ 0x0100 [0x07]).setReg .f 0xF0)
      (fun t => t.reg .f == 0x00 && t.pc == 0x0101 && t.cyc == 4) = true := by decide

/-- V-ROT-4: RLA (R222, R212). -/
theorem test_rla_v_rot_4 :
    gives (((at_ 0x0100 [0x17]).setReg .a 0x95).setReg .f 0x10)
      (fun t => t.reg .a == 0x2B && t.reg .f == 0x10 && t.pc == 0x0101 && t.cyc == 4) = true := by decide

/-- V-ROT-6: RRCA (R223, R211). -/
theorem test_rrca_v_rot_6 :
    gives ((at_ 0x0100 [0x0F]).setReg .a 0x3B)
      (fun t => t.reg .a == 0x9D && t.reg .f == 0x10 && t.pc == 0x0101 && t.cyc == 4) = true := by decide

/-- V-ROT-8: RRA with C = 1 (R224). -/
theorem test_rra_v_rot_8 :
    gives ((at_ 0x0100 [0x1F]).setReg .f 0x10)
      (fun t => t.reg .a == 0x80 && t.reg .f == 0x00 && t.pc == 0x0101 && t.cyc == 4) = true := by decide

/-- V-ROT-9: RL C (R229). -/
theorem test_rl_c_v_rot_9 :
    gives ((((at_ 0x0101 [0x11]).setReg .f 0x10).setReg .c 0x80).setExt true)
      (fun t => t.reg .f == 0x10 && t.reg .c == 0x01 && t.pc == 0x0102 && !t.ext && t.cyc == 4) = true := by decide

/-- V-ROT-10: RR C (R231). -/
theorem test_rr_c_v_rot_10 :
    gives ((((at_ 0x0101 [0x19]).setReg .f 0x10).setReg .c 0x01).setExt true)
      (fun t => t.reg .f == 0x10 && t.reg .c == 0x80 && t.pc == 0x0102 && !t.ext && t.cyc == 4) = true := by decide

/-- V-ROT-11: RRC B (R227). -/
theorem test_rrc_b_v_rot_11 :
    gives (((at_ 0x0101 [0x08]).setReg .b 0x01).setExt true)
      (fun t => t.reg .f == 0x10 && t.reg .b == 0x80 && t.pc == 0x0102 && !t.ext && t.cyc == 4) = true := by decide

/-- V-ROT-12: SLA A (R233, R214). -/
theorem test_sla_a_v_rot_12 :
    gives (((at_ 0x0101 [0x27]).setReg .a 0xFF).setExt true)
      (fun t => t.reg .a == 0xFE && t.reg .f == 0x10 && t.pc == 0x0102 && !t.ext && t.cyc == 4) = true := by decide

/-- V-ROT-13: SRA B keeps bit 7 (R235, R215). -/
theorem test_sra_b_v_rot_13 :
    gives (((at_ 0x0101 [0x28]).setReg .b 0x81).setExt true)
      (fun t => t.reg .f == 0x10 && t.reg .b == 0xC0 && t.pc == 0x0102 && !t.ext && t.cyc == 4) = true := by decide

/-- V-ROT-15: SRL B (R239, R217). -/
theorem test_srl_b_v_rot_15 :
    gives (((at_ 0x0101 [0x38]).setReg .b 0x81).setExt true)
      (fun t => t.reg .f == 0x10 && t.reg .b == 0x40 && t.pc == 0x0102 && !t.ext && t.cyc == 4) = true := by decide

/-- V-ROT-16: SWAP A: C cleared (R237, R216). -/
theorem test_swap_a_v_rot_16 :
    gives ((((at_ 0x0101 [0x37]).setReg .a 0xF1).setReg .f 0x10).setExt true)
      (fun t => t.reg .a == 0x1F && t.reg .f == 0x00 && t.pc == 0x0102 && !t.ext && t.cyc == 4) = true := by decide

/-- V-ROT-17: SWAP (HL) (R238). -/
theorem test_swap_at_hl_v_rot_17 :
    gives ((((at_ 0x0101 [0x36]).setReg .h 0xC0).setExt true).write8 0xC000 0x5A)
      (fun t => t.reg .f == 0x00 && t.pc == 0x0102 && t.read8 0xC000 == 0xA5 && !t.ext && t.cyc == 12) = true := by decide

/-- V-ROT-18: RL (HL) (R230). -/
theorem test_rl_at_hl_v_rot_18 :
    gives ((((at_ 0x0101 [0x16]).setReg .h 0xC0).setExt true).write8 0xC000 0x80)
      (fun t => t.reg .f == 0x90 && t.pc == 0x0102 && t.read8 0xC000 == 0x00 && !t.ext && t.cyc == 12) = true := by decide

/-- V-ROT-19: BIT 7,H set bit: Z = 0, H = 1, C kept (R241, R218). -/
theorem test_bit_7_h_v_rot_19 :
    gives ((((at_ 0x0101 [0x7C]).setReg .f 0x10).setReg .h 0x80).setExt true)
      (fun t => t.reg .f == 0x30 && t.pc == 0x0102 && !t.ext && t.cyc == 4) = true := by decide

/-- V-ROT-21: BIT 7,(HL): 4 + 8 ticks (R242). -/
theorem test_bit_7_at_hl_v_rot_21 :
    gives ((((at_ 0x0101 [0x7E]).setReg .h 0xC0).setExt true).write8 0xC000 0x80)
      (fun t => t.reg .f == 0x20 && t.pc == 0x0102 && !t.ext && t.cyc == 8) = true := by decide

/-- V-ROT-23: RES 7,(HL) (R244). -/
theorem test_res_7_at_hl_v_rot_23 :
    gives ((((at_ 0x0101 [0xBE]).setReg .h 0xC0).setExt true).write8 0xC000 0xFF)
      (fun t => t.reg .f == 0x00 && t.pc == 0x0102 && t.read8 0xC000 == 0x7F && !t.ext && t.cyc == 12) = true := by decide

/-- V-ROT-25: second 0xCB is SET 1,E (R245, R275). -/
theorem test_set_1_e_v_rot_25 :
    gives ((at_ 0x0101 [0xCB]).setExt true)
      (fun t => t.reg .f == 0x00 && t.reg .e == 0x02 && t.pc == 0x0102 && !t.ext && t.cyc == 4) = true := by decide

/-- V-CTL-2: JP Z taken (R252). -/
theorem test_jp_z_nn_v_ctl_2 :
    gives ((at_ 0x0200 [0xCA, 0x00, 0x80]).setReg .f 0x80)
      (fun t => t.reg .f == 0x80 && t.pc == 0x8000 && t.cyc == 16) = true := by decide

/-- V-CTL-3: JP Z not taken (R252). -/
theorem test_jp_z_nn_v_ctl_3 :
    gives (at_ 0x0200 [0xCA, 0x00, 0x80])
      (fun t => t.reg .f == 0x00 && t.pc == 0x0203 && t.cyc == 12) = true := by decide

/-- V-CTL-4: JP HL (R253). -/
theorem test_jp_hl_v_ctl_4 :
    gives ((at_ 0x0100 [0xE9]).setReg .h 0x40)
      (fun t => t.reg .f == 0x00 && t.pc == 0x4000 && t.cyc == 4) = true := by decide

/-- V-CTL-7: JR wraps past 0xFFFF (R254). -/
theorem test_jr_e_v_ctl_7 :
    gives (at_ 0xFFFE [0x18, 0x05])
      (fun t => t.reg .f == 0x00 && t.pc == 0x0005 && t.cyc == 12) = true := by decide

/-- V-CTL-9: JR NZ: Z = 0, taken, 12 ticks (source scenario, section 8 bullet 10, "condition false") (R255). -/
theorem test_jr_nz_e_v_ctl_9 :
    gives (at_ 0x0204 [0x20, 0xFC])
      (fun t => t.reg .f == 0x00 && t.pc == 0x0202 && t.cyc == 12) = true := by decide

/-- V-CTL-10: JR NZ: Z = 1, not taken, 8 ticks (section 8 bullet 10, "condition true") (R255). -/
theorem test_jr_nz_e_v_ctl_10 :
    gives ((at_ 0x0204 [0x20, 0xFC]).setReg .f 0x80)
      (fun t => t.reg .f == 0x80 && t.pc == 0x0206 && t.cyc == 8) = true := by decide

/-- V-CTL-13: CALL 0x1234 (R256, R130). -/
theorem test_call_nn_v_ctl_13 :
    gives ((at_ 0x8000 [0xCD, 0x34, 0x12]).setSp 0xFFFE)
      (fun t => t.reg .f == 0x00 && t.sp == 0xFFFC && t.pc == 0x1234 && t.read8 0xFFFC == 0x03 && t.read8 0xFFFD == 0x80 && t.cyc == 24) = true := by decide

/-- V-CTL-14: CALL C not taken (R257). -/
theorem test_call_c_nn_v_ctl_14 :
    gives (at_ 0x0150 [0xDC, 0x00, 0x40])
      (fun t => t.reg .f == 0x00 && t.pc == 0x0153 && t.cyc == 12) = true := by decide

/-- V-CTL-16: RET (R258, R131). -/
theorem test_ret_v_ctl_16 :
    gives ((((at_ 0x0100 [0xC9]).setSp 0xFFFC).write8 0xFFFC 0x03).write8 0xFFFD 0x80)
      (fun t => t.reg .f == 0x00 && t.sp == 0xFFFE && t.pc == 0x8003 && t.cyc == 16) = true := by decide

/-- V-CTL-18: RET C taken, 20 ticks (R259). -/
theorem test_ret_c_v_ctl_18 :
    gives (((((at_ 0x0100 [0xD8]).setReg .f 0x10).setSp 0xCFFE).write8 0xCFFE 0x53).write8 0xCFFF 0x01)
      (fun t => t.reg .f == 0x10 && t.sp == 0xD000 && t.pc == 0x0153 && t.cyc == 20) = true := by decide

/-- V-CTL-19: RETI (R260). -/
theorem test_reti_v_ctl_19 :
    gives ((((at_ 0x0100 [0xD9]).setSp 0xCFFE).write8 0xCFFE 0x53).write8 0xCFFF 0x01)
      (fun t => t.reg .f == 0x00 && t.sp == 0xD000 && t.pc == 0x0153 && t.ime == true && t.cyc == 16) = true := by decide

/-- V-CTL-20: RST 28H (R261). -/
theorem test_rst_28_v_ctl_20 :
    gives (at_ 0x0234 [0xEF])
      (fun t => t.reg .f == 0x00 && t.sp == 0xCFFE && t.pc == 0x0028 && t.read8 0xCFFE == 0x35 && t.read8 0xCFFF == 0x02 && t.cyc == 16) = true := by decide

/-- V-SYS-2: HALT (R271). -/
theorem test_halt_v_sys_2 :
    gives (at_ 0x0150 [0x76])
      (fun t => t.reg .f == 0x00 && t.pc == 0x0151 && t.halt == true && t.cyc == 4) = true := by decide

/-- V-SYS-3: STOP: 2-byte no-op (R272). -/
theorem test_stop_v_sys_3 :
    gives (at_ 0x0100 [0x10, 0x00])
      (fun t => t.reg .f == 0x00 && t.pc == 0x0102 && t.cyc == 4) = true := by decide

/-- V-SYS-4: DI (R273). -/
theorem test_di_v_sys_4 :
    gives ((at_ 0x0100 [0xF3]).setIme true)
      (fun t => t.reg .f == 0x00 && t.pc == 0x0101 && t.ime == false && t.cyc == 4) = true := by decide

/-- V-SYS-5: EI (R274). -/
theorem test_ei_v_sys_5 :
    gives (at_ 0x0100 [0xFB])
      (fun t => t.reg .f == 0x00 && t.pc == 0x0101 && t.ime == true && t.cyc == 4) = true := by decide

/-- V-SYS-6: prefix step alone (R275). -/
theorem test_prefix_cb_v_sys_6 :
    gives (at_ 0x0200 [0xCB])
      (fun t => t.reg .f == 0x00 && t.pc == 0x0201 && t.ext == true && t.cyc == 4) = true := by decide

/-- V-SYS-7: undefined opcode 0xD3 (R276). -/
theorem test_undef_d3_v_sys_7 :
    gives (((at_ 0x0100 [0xD3]).setReg .a 0x12).setReg .f 0xB0)
      (fun t => t.reg .f == 0xB0 && t.pc == 0x0101 && t.cyc == 4) = true := by decide

/-- V-SYS-10: halted step, IF bit 2 set, IE = 0, IME = 0: wakes, no fetch (R92, R289). -/
theorem test_halted_step_v_sys_10 :
    gives (((at_ 0x0100 [0x00]).setHalt true).write8 0xFF0F 0x04)
      (fun t => t.reg .f == 0x00 && t.pc == 0x0100 && t.halt == false && t.cyc == 4) = true := by decide

/-- V-SYS-11: halted step, only IF bit 7 set: stays halted (R92, R289). -/
theorem test_halted_step_v_sys_11 :
    gives (((at_ 0x0100 [0x00]).setHalt true).write8 0xFF0F 0x80)
      (fun t => t.reg .f == 0x00 && t.pc == 0x0100 && t.halt && t.cyc == 4) = true := by decide

/-- V-INT-1: section 8 bullet 8: VBlank and Timer both pending and enabled; VBlank taken; the same step executes the NOP found at 0x0040 (R283, R285, R286). -/
theorem test_interrupt_v_int_1 :
    gives ((((at_ 0x1234 [0x00]).setIme true).write8 0xFF0F 0x05).write8 0xFFFF 0x05)
      (fun t => t.reg .f == 0x00 && t.sp == 0xCFFE && t.pc == 0x0041 && t.ime == false && t.read8 0xCFFE == 0x34 && t.read8 0xCFFF == 0x12 && t.read8 0xFF0F == 0x04 && t.cyc == 4) = true := by decide

/-- V-INT-3: requested but not enabled: nothing dispatched (R282). -/
theorem test_interrupt_v_int_3 :
    gives ((((at_ 0x0100 [0x00]).setIme true).write8 0xFF0F 0x1F).write8 0xFFFF 0x00)
      (fun t => t.reg .f == 0x00 && t.pc == 0x0101 && t.cyc == 4) = true := by decide

/-- V-INT-7: Serial wins over Joypad; VBlank requested but not enabled (R283). -/
theorem test_interrupt_v_int_7 :
    gives ((((at_ 0x0100 [0x00]).setIme true).write8 0xFF0F 0x19).write8 0xFFFF 0x18)
      (fun t => t.reg .f == 0x00 && t.sp == 0xCFFE && t.pc == 0x0059 && t.ime == false && t.read8 0xCFFF == 0x01 && t.read8 0xFF0F == 0x11 && t.cyc == 4) = true := by decide

/-- V-INT-9: IF bits 7:5 are written back unchanged; IE bits 7:5 ignored (R285, R22). -/
theorem test_interrupt_v_int_9 :
    gives ((((at_ 0x0100 [0x00]).setIme true).write8 0xFF0F 0xE1).write8 0xFFFF 0xE1)
      (fun t => t.reg .f == 0x00 && t.sp == 0xCFFE && t.pc == 0x0041 && t.ime == false && t.read8 0xCFFF == 0x01 && t.read8 0xFF0F == 0xE0 && t.cyc == 4) = true := by decide

/-- V-INT-11: dispatch with SP = 0: return address high byte overwrites IE (R285, R312). -/
theorem test_interrupt_v_int_11 :
    gives (((((at_ 0x1234 [0x00]).setSp 0x0000).setIme true).write8 0xFF0F 0x01).write8 0xFFFF 0x01)
      (fun t => t.reg .f == 0x00 && t.sp == 0xFFFE && t.pc == 0x0041 && t.ime == false && t.read8 0xFF0F == 0x00 && t.read8 0xFFFE == 0x34 && t.read8 0xFFFF == 0x12 && t.cyc == 4) = true := by decide

/-! ## Witnesses: for every statement with hypotheses, a state and operands that meet all of them -/

/-- A running state: `LD B,C` at 0x0100, IME 0. -/
def running : State := (at_ 0x0100 [0x41]).setReg .c 0x5A

/-- A state whose next step dispatches VBlank (V-INT-1): IME, IE and IF set, `NOP` at 0x1234. -/
def dispatching : State := (((at_ 0x1234 [0x00]).setIme true).write8 0xFFFF 0x05).write8 0xFF0F 0x05

/-- The same with EXT = 1, between a prefix and its extended opcode (R313). -/
def afterPrefix : State := dispatching.setExt true

/-- A halted state with a request for Timer. -/
def halted : State := ((at_ 0x0100 [0x00]).setHalt true).write8 0xFF0F 0x04

/-- All four flags set, all four clear: the boundary states of the conditions. -/
def flagsSet : State := running.setFlags ⟨true, true, true, true⟩

/-- The premise of the clauses on reading back what was written holds at reset and in the states above; another
memory collaborator (R48) does not meet it, has the invariant, and steps. -/
theorem witness_flat_memory :
    State.reset.mem.isFlat = true ∧ running.mem.isFlat = true ∧ dispatching.mem.isFlat = true ∧
    halted.mem.isFlat = true := by decide

/-- The core over another memory collaborator. -/
def elsewhere : State := { running with mem := .other 5 }

theorem witness_other_memory :
    elsewhere.mem.isFlat = false ∧ elsewhere.Inv ∧ ∃ t, step elsewhere = .next t :=
  ⟨rfl, ⟨by decide, by decide⟩, step_total _⟩

/-- R41, R45, R48: a store and a raised request are one write each of the collaborator, plain and privileged. -/
theorem test_other_memory_is_given_the_writes :
    (exec (.ld_at_nn_a 0xC000) elsewhere =
      .next { elsewhere with mem := .other (Config.memWrite 5 0xC000 0x00), pc := 0x0103, cyc := 16 }) ∧
    (elsewhere.raiseLine .timer).mem =
      .other (Config.memPrivilegedWrite 5 0xFF0F (Config.memRead 5 0xFF0F ||| 0x04)) := ⟨rfl, rfl⟩

theorem running_inv : running.Inv := ⟨by decide, by decide⟩
theorem dispatching_inv : dispatching.Inv := ⟨by decide, by decide⟩
theorem halted_inv : halted.Inv := ⟨by decide, by decide⟩

theorem witness_PairsAreViewsOfTheRegisters :
    (Reg8.a ≠ Pair.hl.hi ∧ Reg8.a ≠ Pair.hl.lo ∧ Pair.hl ≠ .af) ∧ (Reg8.b ≠ Pair.af.hi ∧ Reg8.b ≠ Pair.af.lo) := by
  decide

theorem witness_DecodeOfEncodeIsTheInstruction :
    (Instr.jp_nn 0xFFFF).wellFormed false = true ∧ (Instr.set_1_e).wellFormed true = true := by decide

theorem witness_EncodeOfDecodeIsTheBytes :
    decode false [0x21, 0x34, 0x12, 0xFF] = .ok (.ld_hl_nn 0x1234, [0xFF]) ∧
    decode true [0xFF, 0x00] = .ok (.set_7_a, [0x00]) := ⟨rfl, rfl⟩

theorem witness_DecodingIsTotalInBothTables :
    Instr.nop.isExtended = false ∧ Instr.nop.form.opcode = 0x00 ∧ Instr.nop.length = 1 ∧
    (Instr.ld_b_n 0x34).isExtended = false ∧ (Instr.ld_b_n 0x34).form.opcode = 0x06 ∧
    Instr.set_7_a.isExtended = true ∧ Instr.set_7_a.form.opcode = 0xFF ∧ Instr.set_7_a.length = 1 := by decide

theorem witness_StepRunsDecodedInstruction :
    (running.halt = false ∧ running.firstDispatchable = none ∧
      decode running.ext running.bytesAtPc = .ok (.ld_b_c, [0x00, 0x00])) ∧
    ((running.setExt true).halt = false ∧ (running.setExt true).firstDispatchable = none ∧
      decode true (running.setExt true).bytesAtPc = .ok (.bit_0_c, [0x00, 0x00])) :=
  ⟨⟨rfl, rfl, rfl⟩, rfl, rfl, rfl⟩

theorem witness_DispatchingStepRunsHandlerOpcode :
    dispatching.halt = false ∧ dispatching.firstDispatchable = some .vblank ∧
    decode dispatching.ext (dispatching.dispatch .vblank).bytesAtPc = .ok (.nop, [0x00, 0x00]) :=
  ⟨rfl, rfl, rfl⟩

/-- A prefix step leaves EXT 1; a halted step with EXT 1 keeps it. -/
theorem witness_ExtendedFlagFollowsPrefixOnly :
    gives (at_ 0x0200 [0xCB]) (fun t => t.ext) = true ∧ gives running (fun t => !t.ext) = true ∧
    gives (halted.setExt true) (fun t => t.ext) = true ∧
    (at_ 0x0200 [0xCB]).halt = false ∧ halted.halt = true := by decide

/-- Both clauses: a request pending, and none but the bit above the lines. -/
theorem witness_HaltedStepOnlyPollsRequests :
    halted.halt = true ∧ gives halted (fun t => !t.halt) = true ∧
    (halted.write8 0xFF0F 0xE0).halt = true ∧ gives (halted.write8 0xFF0F 0xE0) (fun t => t.halt) = true := by decide

theorem witness_AnyRequestWakesAHaltedCore :
    (halted.write8 0xFF0F 0x00).mem.isFlat = true ∧ (halted.write8 0xFF0F 0x00).halt = true ∧
    halted.halt = true ∧ (halted.read8 0xFF0F).getLsbD (lineBit .timer) = true := by decide

theorem witness_ImeFollowsItsInstructions :
    (∃ t, exec .ei running = .next t) ∧ (∃ t, exec .reti running = .next t) ∧
    (∃ t, exec .di dispatching = .next t) ∧ ∃ t, exec .nop dispatching = .next t :=
  ⟨⟨_, rfl⟩, ⟨_, rfl⟩, ⟨_, rfl⟩, _, rfl⟩

theorem witness_HaltFlagSetByHaltOnly :
    (∃ t, exec .halt running = .next t) ∧ ∃ t, exec .nop running = .next t := ⟨⟨_, rfl⟩, _, rfl⟩

theorem witness_CycleCounterGrowsEveryStep :
    gives running (fun t => t.cyc == 4) = true ∧ gives halted (fun t => t.cyc == 4) = true ∧
    gives dispatching (fun t => t.cyc == 4) = true := by decide

theorem witness_CycleCounterInfluencesNothing :
    gives running (fun t => t.reg .b == 0x5A) = true ∧
    gives (running.addTicks 7) (fun t => t.reg .b == 0x5A && t.cyc == 11) = true := by decide

/-- Every line as the one found, no line with IME = 0, and no line with IME = 1. -/
theorem witness_InterruptCheckTakesHighestPriority :
    dispatching.firstDispatchable = some .vblank ∧ running.firstDispatchable = none ∧
    (dispatching.write8 0xFFFF 0x02).firstDispatchable = none ∧
    ((dispatching.write8 0xFFFF 0x1E).write8 0xFF0F 0x1F).firstDispatchable = some .lcd ∧
    (dispatching.write8 0xFFFF 0x1C).firstDispatchable = some .timer ∧
    ((dispatching.write8 0xFFFF 0x18).write8 0xFF0F 0x1F).firstDispatchable = some .serial ∧
    ((dispatching.write8 0xFFFF 0x10).write8 0xFF0F 0xFF).firstDispatchable = some .joypad := by decide

/-- The boundary stack pointers of a dispatch: the push lands on IF with its high byte (SP = 0xFF10) and with its low
byte (SP = 0xFF11), over the write of IF, and on IE (0x0000, 0x0001); PC was 0x1234. -/
theorem witness_DispatchSavesPcAndGoesToVector :
    ((dispatching.setSp 0xFF10).dispatch .vblank).read8 0xFF0F = 0x12 ∧
    ((dispatching.setSp 0xFF10).dispatch .vblank).read8 0xFF0E = 0x34 ∧
    ((dispatching.setSp 0xFF11).dispatch .vblank).read8 0xFF0F = 0x34 ∧
    ((dispatching.setSp 0xFF11).dispatch .vblank).read8 0xFF10 = 0x12 ∧
    ((dispatching.setSp 0x0000).dispatch .vblank).read8 0xFFFF = 0x12 ∧
    ((dispatching.setSp 0x0000).dispatch .vblank).read8 0xFF0F = 0x04 ∧
    ((dispatching.setSp 0x0001).dispatch .vblank).read8 0xFFFF = 0x34 ∧
    ((dispatching.setSp 0x0001).dispatch .vblank).read8 0x0000 = 0x12 := by decide

theorem witness_InterruptAfterPrefixRunsExtendedHandlerByte :
    afterPrefix.halt = false ∧ afterPrefix.ext = true ∧ afterPrefix.firstDispatchable = some .vblank ∧
    gives afterPrefix (fun t => t.pc == 0x0041 && !t.ext) = true := by decide

/-- The boundary addresses of a push across the end of the address space, and `PUSH AF`. -/
theorem witness_PushStoresPairBelowSp :
    gives (((at_ 0x0100 [0xF5]).setSp 0x0001).setReg .f 0xB0)
      (fun t => t.sp == 0xFFFF && t.read8 0xFFFF == 0xB0 && t.read8 0x0000 == 0x00) = true := by decide

theorem witness_PopLoadsPairFromSp : (Pair.bc ≠ .af ∧ Pair.de ≠ .af ∧ Pair.hl ≠ .af) := by decide

theorem witness_PopAfterPushRestoresWordAndSp :
    (∃ t, exec (Form.push .bc).instr running = .next t) ∧
    ∃ t, exec (Form.push .af).instr (flagsSet.setSp 0x0000) = .next t := ⟨⟨_, rfl⟩, _, rfl⟩

theorem witness_IncThenDecRestoresRegister :
    (∃ t, exec (Form.inc (.reg .b)).instr (running.setReg .b 0xFF) = .next t) ∧
    ∃ t, exec (Form.inc (.reg .a)).instr running = .next t := ⟨⟨_, rfl⟩, _, rfl⟩

/-- Both clauses, and the thresholds: N = 0 at 0x99 and 0x9A, N = 1. -/
theorem witness_DaaAdjustsByHAndC :
    (running.setReg .a 0x99).flags.n = false ∧ flagsSet.flags.n = true ∧
    gives ((at_ 0x0100 [0x27]).setReg .a 0x99) (fun t => t.reg .a == 0x99 && !t.flags.c) = true ∧
    gives ((at_ 0x0100 [0x27]).setReg .a 0x9A) (fun t => t.reg .a == 0x00 && t.flags.c) = true := by decide

theorem witness_DaaCorrectsBcdSums :
    (99 : Nat) < 100 ∧ (1 : Nat) < 100 ∧ (running.setReg .a 0x99).reg .a = bcd 99 := by decide

theorem witness_DaaCorrectsBcdDifferences :
    (5 : Nat) < 100 ∧ (10 : Nat) < 100 ∧ (running.setReg .a 0x05).reg .a = bcd 5 := by decide

theorem witness_WideIncAndDecTouchNoFlag :
    (WideReg.bc ≠ .sp ∧ WideReg.de ≠ .sp ∧ WideReg.hl ≠ .sp) ∧
    gives ((at_ 0x0100 [0x33]).setSp 0xFFFF) (fun t => t.sp == 0x0000) = true := by decide

theorem witness_AccumulatorRotatesForceZeroFlagClear :
    (Form.rra, RotOp.rr) ∈ [(Form.rlca, RotOp.rlc), (Form.rla, RotOp.rl), (Form.rrca, RotOp.rrc),
      (Form.rra, RotOp.rr)] := by decide

/-- Both values of every condition. -/
theorem witness_CallsAndRestartsPushReturnAddress :
    condition .nz running = true ∧ condition .nz flagsSet = false ∧ condition .z running = false ∧
    condition .z flagsSet = true ∧ condition .nc running = true ∧ condition .nc flagsSet = false ∧
    condition .c running = false ∧ condition .c flagsSet = true := by decide

/-- Both values of a condition; a return with SP at the end of the address space. -/
theorem witness_ReturnsPopProgramCounter :
    condition .z flagsSet = true ∧ condition .z running = false ∧
    gives (((at_ 0x0100 [0xC9]).setSp 0xFFFF).write8 0xFFFF 0x34) (fun t => t.pc == 0x0034 && t.sp == 0x0001) = true := by
  decide

theorem witness_ReturnAfterCallComesBack :
    (∃ t, exec (Form.call 0x1234).instr running = .next t) ∧
    ∃ t, exec (Form.rst .o7).instr (running.setSp 0x0000) = .next t := ⟨⟨_, rfl⟩, _, rfl⟩

/-- A form that writes no flag, one that keeps C, one that keeps N, one that keeps Z. -/
theorem witness_UnnamedFlagsAreKept :
    (∃ t, exec .nop flagsSet = .next t) ∧ flagsWritten Instr.nop.form = ⟨false, false, false, false⟩ ∧
    (∃ t, exec .inc_b flagsSet = .next t) ∧ (flagsWritten Instr.inc_b.form).c = false ∧
    (∃ t, exec .daa flagsSet = .next t) ∧ (flagsWritten Instr.daa.form).n = false ∧
    (∃ t, exec .scf flagsSet = .next t) ∧ (flagsWritten Instr.scf.form).z = false :=
  ⟨⟨_, rfl⟩, rfl, ⟨_, rfl⟩, rfl, ⟨_, rfl⟩, rfl, ⟨_, rfl⟩, rfl⟩

theorem witness_UnnamedRegistersAreKept :
    (∃ t, exec .ld_b_c running = .next t) ∧ Reg8.c ≠ .f ∧ Reg8.c ∉ regsWritten Instr.ld_b_c.form ∧
    spWritten Instr.ld_b_c.form running = false :=
  ⟨⟨_, rfl⟩, by decide, by decide, rfl⟩

/-- A storing form next to its stored bytes, and a form that stores nothing. -/
theorem witness_BytesNotStoredToAreKept :
    (∃ t, exec .push_bc running = .next t) ∧ (0xD000 : Word) ∉ storedAt Instr.push_bc.form running ∧
    (0xCFFD : Word) ∉ storedAt Instr.push_bc.form running ∧
    (∃ t, exec .cp_b running = .next t) ∧ (0x0000 : Word) ∉ storedAt Instr.cp_b.form running ∧
    storedAt Instr.cp_b.form running = [] ∧ storedAt Instr.push_bc.form running = [0xCFFE, 0xCFFF] ∧
    (∃ t, exec .ld_at_bc_a running = .next t) ∧ storedAt Instr.ld_at_bc_a.form running = [0x005A] :=
  ⟨⟨_, rfl⟩, by decide, by decide, ⟨_, rfl⟩, by decide, by decide, by decide, ⟨_, rfl⟩, by decide⟩

/-- The three kinds of step, each from a state with the invariant. -/
theorem witness_StepKeepsInvariant :
    (running.Inv ∧ ∃ t, step running = .next t) ∧ (dispatching.Inv ∧ ∃ t, step dispatching = .next t) ∧
    (halted.Inv ∧ ∃ t, step halted = .next t) :=
  ⟨⟨running_inv, step_total _⟩, ⟨dispatching_inv, step_total _⟩, halted_inv, step_total _⟩

theorem witness_EnvironmentMovesKeepInvariant : dispatching.Inv := dispatching_inv


end Sys2Proof.Tests
end

section
/-! PROOFS of the statements about the state (10_state.md). First the laws of the composite updates of `Form.post` and
what an instruction of any form does to each field, one lemma per field; the statements follow from them. -/

namespace Sys2Proof.Machine

/-! ## The composite updates of `Form.post` -/

@[simp] theorem State.sp_setAF (s : State) (x : Byte × Flags) : (s.setAF x).sp = s.sp := rfl
@[simp] theorem State.ime_setAF (s : State) (x : Byte × Flags) : (s.setAF x).ime = s.ime := rfl
@[simp] theorem State.halt_setAF (s : State) (x : Byte × Flags) : (s.setAF x).halt = s.halt := rfl
@[simp] theorem State.ext_setAF (s : State) (x : Byte × Flags) : (s.setAF x).ext = s.ext := rfl
@[simp] theorem State.cyc_setAF (s : State) (x : Byte × Flags) : (s.setAF x).cyc = s.cyc := rfl
@[simp] theorem State.intDispatchTicks_setAF (s : State) (x : Byte × Flags) :
    (s.setAF x).intDispatchTicks = s.intDispatchTicks := rfl
@[simp] theorem State.flags_setAF (s : State) (x : Byte × Flags) : (s.setAF x).flags = x.2 :=
  State.flags_setFlags _ _
@[simp] theorem State.reg_setAF (s : State) (x : Byte × Flags) (r : Reg8) (hf : r ≠ .f) :
    (s.setAF x).reg r = if r = .a then x.1 else s.reg r := by
  simp [State.setAF, hf, State.reg_setReg]

@[simp] theorem State.sp_putF (s : State) (l : Loc8) (x : Byte × Flags) : (s.putF l x).sp = s.sp :=
  State.sp_put l x.1 s
@[simp] theorem State.ime_putF (s : State) (l : Loc8) (x : Byte × Flags) : (s.putF l x).ime = s.ime :=
  State.ime_put l x.1 s
@[simp] theorem State.halt_putF (s : State) (l : Loc8) (x : Byte × Flags) : (s.putF l x).halt = s.halt :=
  State.halt_put l x.1 s
@[simp] theorem State.ext_putF (s : State) (l : Loc8) (x : Byte × Flags) : (s.putF l x).ext = s.ext :=
  State.ext_put l x.1 s
@[simp] theorem State.cyc_putF (s : State) (l : Loc8) (x : Byte × Flags) : (s.putF l x).cyc = s.cyc :=
  State.cyc_put l x.1 s
@[simp] theorem State.intDispatchTicks_putF (s : State) (l : Loc8) (x : Byte × Flags) :
    (s.putF l x).intDispatchTicks = s.intDispatchTicks := State.intDispatchTicks_put l x.1 s
@[simp] theorem State.flags_putF (s : State) (l : Loc8) (x : Byte × Flags) : (s.putF l x).flags = x.2 :=
  State.flags_setFlags _ _

@[simp] theorem State.reg_returnFromInterrupt (s : State) (r : Reg8) :
    s.returnFromInterrupt.reg r = s.reg r := rfl
@[simp] theorem State.flags_returnFromInterrupt (s : State) : s.returnFromInterrupt.flags = s.flags := rfl
@[simp] theorem State.ime_returnFromInterrupt (s : State) : s.returnFromInterrupt.ime = true := rfl
@[simp] theorem State.halt_returnFromInterrupt (s : State) : s.returnFromInterrupt.halt = s.halt := rfl
@[simp] theorem State.ext_returnFromInterrupt (s : State) : s.returnFromInterrupt.ext = s.ext := rfl
@[simp] theorem State.cyc_returnFromInterrupt (s : State) : s.returnFromInterrupt.cyc = s.cyc := rfl
@[simp] theorem State.intDispatchTicks_returnFromInterrupt (s : State) :
    s.returnFromInterrupt.intDispatchTicks = s.intDispatchTicks := rfl

/-! ## The registers outside an operand -/

/-- The write of a pair leaves every register but F and those the pair names in `Claims.popRegs`. -/
theorem State.reg_setPair_of_notMem (s : State) {p : Pair} (v : Word) {r : Reg8} (hf : r ≠ .f)
    (h : r ∉ Claims.popRegs p) : (s.setPair p v).reg r = s.reg r := by
  apply State.reg_setPair_of_ne <;> cases p <;> simp_all [Claims.popRegs, Pair.hi, Pair.lo]

theorem State.reg_setWide_of_notMem (s : State) {rr : WideReg} (v : Word) {r : Reg8} (hf : r ≠ .f)
    (h : r ∉ Claims.wideRegs rr) : (s.setWide rr v).reg r = s.reg r := by
  cases rr with
  | bc => exact s.reg_setPair_of_notMem (p := .bc) v hf h
  | de => exact s.reg_setPair_of_notMem (p := .de) v hf h
  | hl => exact s.reg_setPair_of_notMem (p := .hl) v hf h
  | sp => rfl

theorem State.sp_setWide_of_not_isSp (s : State) {rr : WideReg} (v : Word) (h : Claims.isSp rr = false) :
    (s.setWide rr v).sp = s.sp := by
  cases rr with
  | sp => exact absurd h nofun
  | bc | de | hl => rfl

theorem State.reg_put_of_notMem (s : State) {x : Loc8} (v : Byte) {r : Reg8} (h : r ∉ Claims.locRegs x) :
    (x.put v s).reg r = s.reg r := by
  cases x with
  | reg q => exact s.reg_setReg_of_ne _ _ _ (by simpa [Claims.locRegs] using h)
  | atHl => rfl

theorem State.reg_putF_of_notMem (s : State) {l : Loc8} (x : Byte × Flags) {r : Reg8} (hf : r ≠ .f)
    (h : r ∉ Claims.locRegs l) : (s.putF l x).reg r = s.reg r := by
  rw [State.putF, State.reg_setFlags _ _ _ hf, State.reg_put_of_notMem s _ h]

end Sys2Proof.Machine

namespace Sys2Proof.Laws

open Machine Claims

/-! ## The tables of the statements and the model's own -/

/-- An instruction has a form exactly if it is the form's instruction. -/
theorem form_eq_iff (i : Instr) (f : Form) : i.form = f ↔ i = f.instr :=
  ⟨fun h => by rw [← h, FormView.all], fun h => by rw [h, form_instr]⟩

theorem holds_eq_condition (cc : Cond) (s : State) : cc.holds s = condition cc s := by
  cases cc <;> rfl

theorem ticks_eq_operandTicks (src : Src8) : src.ticks = operandTicks src := by
  cases src <;> rfl

theorem modifyTicks_eq_modifyTicksOf (x : Loc8) : x.modifyTicks = modifyTicksOf x := by
  cases x <;> rfl

theorem testTicks_eq_testTicksOf (x : Loc8) : x.testTicks = testTicksOf x := by
  cases x <;> rfl

/-! ## What an instruction does to each field, by its form

A case `ldHldA` (R117) cites the laws of its updates one by one: left to a proof by unfolding, the kernel compares the
whole states before their one field and computes with the decrement of HL. -/

theorem ime_post (f : Form) (s : State) :
    (f.post s).ime = if f = .ei ∨ f = .reti then true else if f = .di then false else s.ime := by
  cases f with
  | jpCc cc _ | jrCc cc _ | callCc cc _ | retCc cc => cases hc : cc.holds s <;> simp [hc]
  | ldHldA =>
    rw [post_ldHldA, State.ime_advance, State.ime_setPair, State.ime_write8]
    simp
  | _ => simp

theorem halt_post (f : Form) (s : State) : (f.post s).halt = if f = .halt then true else s.halt := by
  cases f with
  | jpCc cc _ | jrCc cc _ | callCc cc _ | retCc cc => cases hc : cc.holds s <;> simp [hc]
  | ldHldA =>
    rw [post_ldHldA, State.halt_advance, State.halt_setPair, State.halt_write8]
    simp
  | _ => simp

theorem ext_post (f : Form) (s : State) : (f.post s).ext = if f = .prefixCb then true else s.ext := by
  cases f with
  | jpCc cc _ | jrCc cc _ | callCc cc _ | retCc cc => cases hc : cc.holds s <;> simp [hc]
  | ldHldA =>
    rw [post_ldHldA, State.ext_advance, State.ext_setPair, State.ext_write8]
    simp
  | _ => simp

@[simp] theorem intDispatchTicks_post (f : Form) (s : State) :
    (f.post s).intDispatchTicks = s.intDispatchTicks := by
  cases f with
  | jpCc cc _ | jrCc cc _ | callCc cc _ | retCc cc => cases hc : cc.holds s <;> simp [hc]
  | ldHldA =>
    rw [post_ldHldA, State.intDispatchTicks_advance, State.intDispatchTicks_setPair,
      State.intDispatchTicks_write8]
  | _ => simp

/-- CYC grows by the ticks of the tick table (R87, R320). -/
theorem cyc_post (f : Form) (s : State) : (f.post s).cyc = s.cyc + ticksOf f s := by
  cases f with
  | jpCc cc _ | jrCc cc _ | callCc cc _ | retCc cc =>
    rw [ticksOf, ← holds_eq_condition]
    cases hc : cc.holds s <;> simp [hc]
  | ld _ src | alu _ src => simp [ticksOf, ticks_eq_operandTicks]
  | inc x | dec x | rot _ x | res _ x | set _ x => simp [ticksOf, modifyTicks_eq_modifyTicksOf]
  | bit _ x => simp [ticksOf, testTicks_eq_testTicksOf]
  | ldHldA => rw [post_ldHldA, State.cyc_advance, State.cyc_setPair, State.cyc_write8, ticksOf]
  | _ => simp [ticksOf]

/-- The smallest entry of the tick table is 4 (R320). -/
theorem four_le_ticksOf (f : Form) (s : State) : 4 ≤ ticksOf f s := by
  cases f with
  | jpCc cc _ | jrCc cc _ | callCc cc _ | retCc cc => simp only [ticksOf]; split <;> decide
  | ld _ src | alu _ src => cases src <;> simp [ticksOf, operandTicks]
  | inc x | dec x | rot _ x | res _ x | set _ x => cases x <;> simp [ticksOf, modifyTicksOf]
  | bit _ x => cases x <;> simp [ticksOf, testTicksOf]
  | _ => simp [ticksOf]

theorem reg_post_of_notMem {f : Form} (s : State) {r : Reg8} (hf : r ≠ .f) (h : r ∉ regsWritten f) :
    (f.post s).reg r = s.reg r := by
  cases f with
  | jpCc cc _ | jrCc cc _ | callCc cc _ | retCc cc => cases hc : cc.holds s <;> simp [hc]
  | ldWide rr _ | incWide rr | decWide rr => exact s.reg_setWide_of_notMem _ hf h
  | pop p => exact s.popDone.reg_setPair_of_notMem _ hf h
  | addHl _ | ldHlSpE _ =>
    exact (State.reg_setFlags _ _ _ hf).trans (s.reg_setPair_of_notMem (p := .hl) _ hf h)
  | ldHliA => exact State.reg_setPair_of_notMem (p := .hl) _ _ hf h
  | ldHldA => rw [post_ldHldA, State.reg_advance, State.reg_setPair_of_notMem (p := .hl) _ _ hf h,
      State.reg_write8]
  | ldAHli | ldAHld =>
    have ha : r ≠ .a := List.ne_of_not_mem_cons h
    have hhl : r ∉ popRegs .hl := List.not_mem_of_not_mem_cons h
    exact (State.reg_setPair_of_notMem _ _ hf hhl).trans (s.reg_setReg_of_ne _ _ _ ha)
  | alu op src =>
    by_cases hop : op = .cp
    · subst hop
      simp only [post_alu, State.reg_advance, State.reg_setAF _ _ _ hf]
      split
      · subst r; rfl
      · rfl
    · have ha : r ≠ .a := by cases op <;> simp_all [regsWritten, aluRegs]
      simp [hf, ha]
  | inc x | dec x | rot _ x => exact s.reg_putF_of_notMem _ hf h
  | res _ x | set _ x => exact s.reg_put_of_notMem _ h
  | _ => simp_all [regsWritten]

theorem sp_post_of_not_written {f : Form} {s : State} (h : spWritten f s = false) : (f.post s).sp = s.sp := by
  cases f with
  | jpCc cc _ | jrCc cc _ => cases hc : cc.holds s <;> simp [hc]
  | callCc cc _ | retCc cc =>
    rw [spWritten, ← holds_eq_condition] at h
    simp [h]
  | ldWide rr _ | incWide rr | decWide rr => exact s.sp_setWide_of_not_isSp _ h
  | ldHldA => rw [post_ldHldA, State.sp_advance, State.sp_setPair, State.sp_write8]
  | _ => simp_all [spWritten]

/-! ## The flags outside an instruction's row of the flag table -/

/-- Each of the four flags that `w` does not name is in `new` as in `old`. -/
def FlagsKeptOutside (w old new : Flags) : Prop :=
  (w.z = false → new.z = old.z) ∧ (w.n = false → new.n = old.n) ∧ (w.h = false → new.h = old.h) ∧
    (w.c = false → new.c = old.c)

theorem FlagsKeptOutside.refl (w fl : Flags) : FlagsKeptOutside w fl fl :=
  ⟨fun _ => rfl, fun _ => rfl, fun _ => rfl, fun _ => rfl⟩

theorem FlagsKeptOutside.of_all (old new : Flags) : FlagsKeptOutside ⟨true, true, true, true⟩ old new :=
  ⟨nofun, nofun, nofun, nofun⟩

theorem FlagsKeptOutside.of_eq {w old new : Flags} (h : new = old) : FlagsKeptOutside w old new :=
  h ▸ .refl w new

/-- A form keeps the flags that the table of R16 does not name for it. -/
theorem flags_post_kept (f : Form) (s : State) : FlagsKeptOutside (flagsWritten f) s.flags (f.post s).flags := by
  cases f with
  | alu _ _ | addSpE _ | ldHlSpE _ | rlca | rla | rrca | rra | rot _ _ => exact .of_all _ _
  | pop p =>
    cases p with
    | af => exact .of_all _ _
    | bc | de | hl => exact .refl _ _
  | inc _ | dec _ | bit _ _ => simp [FlagsKeptOutside, flagsWritten, inc8, dec8, bitTest]
  | daa =>
    have hn : (daa8 s.flags (s.reg .a)).2.n = s.flags.n := rfl
    simp [FlagsKeptOutside, flagsWritten, hn]
  | cpl | scf | ccf => simp [FlagsKeptOutside, flagsWritten]
  | addHl _ => simp [FlagsKeptOutside, flagsWritten, addHl16]
  | jpCc cc _ | jrCc cc _ | callCc cc _ | retCc cc => exact .of_eq (by cases hc : cc.holds s <;> simp [hc])
  | ldHldA =>
    refine .of_eq ?_
    rw [post_ldHldA, State.flags_advance, State.flags_setPair _ _ _ (by decide), State.flags_write8]
  | _ => exact .of_eq (by simp)

/-! ## EXT and CYC over a step -/

/-- `PREFIX CB` stands at one place of the two tables: 0xCB of the base table (R69, R275). -/
theorem tableEntry_eq_prefix_cb_iff (ext : Bool) (op n : Byte) (nn : Word) :
    tableEntry ext op n nn = .prefix_cb ↔ ext = false ∧ op = 0xCB := by
  constructor
  · intro h
    obtain ⟨hop, -, hformat, hext, -⟩ := entry_agrees ext op n nn
    rw [h] at hop hformat
    exact ⟨by rw [← hext, ← hformat]; rfl, by rw [← hop]; rfl⟩
  · rintro ⟨rfl, rfl⟩
    with_unfolding_all rfl

@[simp] theorem ext_interruptCheck (s : State) : s.interruptCheck.ext = s.ext := by
  rcases s.interruptCheck_cases with ⟨-, h⟩ | ⟨l, -, -, h⟩ <;> simp [h]

theorem cyc_le_cyc_interruptCheck (s : State) : s.cyc ≤ s.interruptCheck.cyc := by
  rcases s.interruptCheck_cases with ⟨-, h⟩ | ⟨l, -, -, h⟩ <;> simp [h]

theorem fetch_eq_prefix_cb_iff (s : State) : s.fetch = .prefix_cb ↔ s.ext = false ∧ s.read8 s.pc = 0xCB :=
  tableEntry_eq_prefix_cb_iff _ _ _ _

/-! ## The interrupt lines -/

theorem mask_eq_shiftLeft (l : Line) : l.mask = 1#8 <<< lineBit l := by
  cases l <;> rfl

/-- Masking a byte with a line's mask tests the line's bit. -/
theorem and_mask_ne_zero (b : Byte) (l : Line) : (b &&& l.mask != 0) = b.getLsbD (lineBit l) := by
  have hmask : l.mask = BitVec.twoPow 8 (lineBit l) := by cases l <;> rfl
  have hne : l.mask ≠ 0#8 := by cases l <;> decide
  have hand : b &&& l.mask = if b.getLsbD (lineBit l) then l.mask else 0 := by
    rw [hmask]; exact BitVec.and_twoPow b _
  rw [hand]
  cases b.getLsbD (lineBit l) <;> simp [hne]

theorem and_line_bits_ne_zero_iff (b : Byte) : (b &&& 0x1F != 0) = true ↔ b.toNat % 32 ≠ 0 := by
  have hmod : (b &&& 0x1F).toNat = b.toNat % 32 := by
    rw [BitVec.toNat_and]; exact Nat.and_two_pow_sub_one_eq_mod b.toNat 5
  rw [bne_iff_ne, Ne, ← BitVec.toNat_inj, hmod]; rfl

theorem byteStoredPrivileged_privilegedWrite (s : State) (a : Word) (v : Byte) :
    ByteStoredPrivileged s (s.privilegedWrite a v) a v :=
  ⟨rfl, fun h x => s.read8_privilegedWrite a x v h⟩

/-! ## F as the low half of AF -/

theorem low_nibble_pair_af (s : State) : s.pair .af &&& 0x000F = 0 :=
  calc s.pair .af &&& 0x000F
      = (s.reg .a ++ s.reg .f) &&& (0#8 ++ 0x0F#8) := rfl
    _ = (s.reg .a &&& 0#8) ++ (s.reg .f &&& 0x0F#8) := BitVec.and_append
    _ = 0 := by rw [BitVec.and_zero, show s.reg .f &&& 0x0F#8 = 0 from maskF_low _]; rfl

end Sys2Proof.Laws

namespace Sys2Proof.Proofs

open Machine Claims Laws

/-- Settles O14: only `PREFIX CB` leaves EXT set, and it is fetched at one place of the tables alone. -/
theorem extendedFlagFollowsPrefixOnly : Obligations.ExtendedFlagFollowsPrefixOnly := by
  intro s t hst
  rcases step_cases hst with ⟨hhalt, rfl⟩ | ⟨hrun, rfl⟩
  · exact ⟨fun _ => rfl, fun h => absurd (h.symm.trans hhalt) nofun⟩
  · refine ⟨fun h => absurd (h.symm.trans hrun) nofun, fun _ => ?_⟩
    calc (s.interruptCheck.fetch.form.post (s.interruptCheck.setExt false)).ext = true
        ↔ s.interruptCheck.fetch.form = .prefixCb := by simp [ext_post]
      _ ↔ s.interruptCheck.fetch = .prefix_cb := form_eq_iff _ _
      _ ↔ s.ext = false ∧ s.interruptCheck.read8 s.interruptCheck.pc = 0xCB := by
        rw [fetch_eq_prefix_cb_iff, ext_interruptCheck]

/-- Settles O17, by the forms for `exec`; dispatch and the halted step by their own laws. -/
theorem imeFollowsItsInstructions : Obligations.ImeFollowsItsInstructions := by
  refine ⟨fun i s t h => ?_, State.dispatch_ime, fun _ => rfl⟩
  have hei : i.form = .ei ↔ i = .ei := form_eq_iff i .ei
  have hreti : i.form = .reti ↔ i = .reti := form_eq_iff i .reti
  have hdi : i.form = .di ↔ i = .di := form_eq_iff i .di
  rw [of_exec_eq h, ime_post]
  simp only [hei, hreti, hdi]

/-- Settles O18, by the forms for `exec`. -/
theorem haltFlagSetByHaltOnly : Obligations.HaltFlagSetByHaltOnly := by
  refine ⟨fun i s t h => ?_, State.dispatch_halt⟩
  have hhalt : i.form = .halt ↔ i = .halt := form_eq_iff i .halt
  rw [of_exec_eq h, halt_post]
  simp only [hhalt]

/-- Settles O19: the halted step adds its quantum, every other step the ticks of an entry of the tick table. -/
theorem cycleCounterGrowsEveryStep : Obligations.CycleCounterGrowsEveryStep := by
  intro s t hst
  rcases step_cases hst with ⟨-, rfl⟩ | ⟨-, rfl⟩
  · exact le_refl (s.cyc + 4)
  · rw [cyc_post]
    exact Nat.add_le_add (cyc_le_cyc_interruptCheck s) (four_le_ticksOf _ _)

/-- Settles O56, by the forms: most write no flag or all four. -/
theorem unnamedFlagsAreKept : Obligations.UnnamedFlagsAreKept := by
  intro i s t h
  rw [of_exec_eq h]
  exact flags_post_kept i.form s

/-- Settles O57, by the forms: each writes inside its row of the tables of destinations. -/
theorem unnamedRegistersAreKept : Obligations.UnnamedRegistersAreKept := by
  intro i s t h
  rw [of_exec_eq h]
  exact ⟨fun _ hf hr => reg_post_of_notMem s hf hr, sp_post_of_not_written, intDispatchTicks_post _ s⟩

/-- Settles O1: the reset state is a literal, read field by field. -/
theorem resetZeroesRegistersAndFlags : Obligations.ResetZeroesRegistersAndFlags := by
  refine ⟨fun r => ?_, rfl, rfl, rfl, rfl, rfl, rfl, rfl⟩
  cases r <;> rfl

/-- Settles O3, from what a register and a pair read after a pair or a register is written. -/
theorem pairsAreViewsOfTheRegisters : Obligations.PairsAreViewsOfTheRegisters := by
  intro s p v
  have hlohi : p.lo ≠ p.hi := p.hi_ne_lo.symm
  refine ⟨joinBytes_toNat _ _, ?_, ?_, fun r hhi hlo => State.reg_setPair_of_ne s p v r hhi hlo,
    fun w => ?_, fun hp w => ?_⟩
  · rw [State.reg_setPair, if_neg p.hi_ne_lo, if_pos rfl]; rfl
  · rw [State.reg_setPair, if_pos rfl]; rfl
  · rw [State.pair, joinBytes_toNat, State.reg_setReg_self, if_neg p.hi_ne_f, State.reg_setReg_of_ne _ _ _ _ hlohi]
  · rw [State.pair, joinBytes_toNat, State.reg_setReg_self, if_neg (mt p.lo_eq_f.1 hp),
      State.reg_setReg_of_ne _ _ _ _ p.hi_ne_lo]

/-- Settles O4, from the mask that every read and every write of F goes through. -/
theorem flagRegisterLayoutAndZeroNibble : Obligations.FlagRegisterLayoutAndZeroNibble :=
  fun s _ fl => ⟨rfl, maskF_low s.regs.f, low_nibble_pair_af s, rfl, State.flags_setFlags s fl, maskF_low fl.pack⟩

/-- Settles O25: each mutator is one privileged write, each predicate the test of a masked byte. -/
theorem lineAccessorsActOnOneBit : Obligations.LineAccessorsActOnOneBit := by
  refine ⟨rfl, rfl, rfl, fun s l => ?_⟩
  rw [← mask_eq_shiftLeft]
  exact ⟨byteStoredPrivileged_privilegedWrite s _ _, byteStoredPrivileged_privilegedWrite s _ _,
    byteStoredPrivileged_privilegedWrite s _ _, byteStoredPrivileged_privilegedWrite s _ _, rfl,
    and_mask_ne_zero _ l, and_mask_ne_zero _ l, and_line_bits_ne_zero_iff _⟩

end Sys2Proof.Proofs
end

section
/-! PROOFS of the statements about memory (20_memory.md). What the memory port is given by an instruction of any form
is said once, by the relation `StoresAt`; the clauses on the bytes stored to and on the bytes kept follow from it. -/

namespace Sys2Proof.Machine

/-! ## Memory after the composite updates of `Form.post` -/

@[simp] theorem State.mem_setAF (s : State) (x : Byte × Flags) : (s.setAF x).mem = s.mem := rfl
@[simp] theorem State.mem_putF (s : State) (l : Loc8) (x : Byte × Flags) :
    (s.putF l x).mem = (l.put x.1 s).mem := rfl
@[simp] theorem State.mem_returnFromInterrupt (s : State) : s.returnFromInterrupt.mem = s.mem := rfl

/-! ## The port, over a whole state -/

/-- In the reference memory a word write is the write of its low byte, then of its high byte (R43, R46). -/
theorem State.write16_eq (s : State) (a v : Word) (h : s.mem.isFlat = true) :
    s.write16 a v = (s.write8 a (loByte v)).write8 (a + 1) (hiByte v) := by
  rw [State.write16, Memory.writeWord_eq _ _ _ h]; rfl

theorem State.read16_toNat (s : State) (a : Word) :
    (s.read16 a).toNat = (s.read8 a).toNat + 256 * (s.read8 (a + 1)).toNat := by
  rw [State.read16, joinBytes_toNat]; omega

/-- No register changes, and every write of memory keeps the canonical form. -/
theorem State.inv_privilegedWrite {s : State} (a : Word) (v : Byte) (h : s.Inv) : (s.privilegedWrite a v).Inv := by
  obtain ⟨hf, hm⟩ := h
  exact ⟨hf, s.wf_privilegedWrite a v hm⟩

end Sys2Proof.Machine

namespace Sys2Proof.Laws

open Machine Claims

theorem byteStored_write8 (s : State) (a : Word) (v : Byte) : ByteStored s (s.write8 a v) a v :=
  ⟨rfl, fun h x => s.read8_write8 a x v h⟩

theorem wordStored_write16 (s : State) (a v : Word) : WordStored s (s.write16 a v) a v :=
  ⟨rfl, fun h x => s.read8_write16 a v x h⟩

/-! ## What an instruction stores -/

/-- Memory `m` becomes `m'` by what an instruction may store: nothing, one byte, or one word; the list is of the
addresses of the bytes stored. -/
inductive StoresAt (m : Memory) : List Word → Memory → Prop
  | nothing : StoresAt m [] m
  | byte (a : Word) (v : Byte) : StoresAt m [a] (m.write a v)
  | word (a v : Word) : StoresAt m [a, a + 1] (m.writeWord a v)

namespace StoresAt

variable {m m' : Memory} {stored : List Word}

theorem isFlat_eq (h : StoresAt m stored m') : m'.isFlat = m.isFlat := by
  cases h with
  | nothing => rfl
  | byte a v => exact m.isFlat_write a v
  | word a v => exact m.isFlat_writeWord a v

theorem read_of_notMem (h : StoresAt m stored m') (hm : m.isFlat = true) {x : Word} (hx : x ∉ stored) :
    m'.read x = m.read x := by
  cases h with
  | nothing => rfl
  | byte a v => exact m.read_write_of_ne a x v hm (List.ne_of_not_mem_cons hx)
  | word a v =>
    have hlo : x ≠ a := List.ne_of_not_mem_cons hx
    have hhi : x ≠ a + 1 := List.ne_of_not_mem_cons (List.not_mem_of_not_mem_cons hx)
    rw [m.writeWord_eq a v hm, Memory.read_write_of_ne _ _ _ _ (by simpa using hm) hhi,
      Memory.read_write_of_ne _ _ _ _ hm hlo]

theorem eq_of_nil (h : StoresAt m [] m') : m' = m := by
  cases h; rfl

theorem eq_write_of_singleton {a : Word} (h : StoresAt m [a] m') : ∃ v, m' = m.write a v := by
  cases h with
  | byte _ v => exact ⟨v, rfl⟩

theorem eq_writeWord_of_pair {a b : Word} (h : StoresAt m [a, b] m') :
    b = a + 1 ∧ ∃ v, m' = m.writeWord a v := by
  cases h with
  | word _ v => exact ⟨rfl, v, rfl⟩

end StoresAt

theorem storesAt_put (x : Loc8) (v : Byte) (s : State) : StoresAt s.mem (locStored x s) (x.put v s).mem := by
  cases x with
  | reg r => exact .nothing
  | atHl => exact .byte s.hl v

/-- What an instruction of a form stores, at the addresses of the table `storedAt`. `ldHldA` cites the laws of its
updates, as in `ime_post`. -/
theorem storesAt_post (f : Form) (s : State) : StoresAt s.mem (storedAt f s) (f.post s).mem := by
  cases f with
  | ldToHl _ | ldHlImm _ | ldHliA | ldBcA | ldDeA | ldNnA _ | ldhNA _ | ldhCA => exact .byte _ _
  | ldHldA =>
    rw [post_ldHldA, State.mem_advance, State.mem_setPair, State.mem_write8]
    exact .byte _ _
  | ldNnSp _ | push _ | call _ | rst _ => exact .word _ _
  | inc x | dec x | rot _ x | res _ x | set _ x => exact storesAt_put x _ s
  | callCc cc _ =>
    rw [storedAt, ← holds_eq_condition, post_callCc]
    cases cc.holds s with
    | true => exact .word _ _
    | false => exact .nothing
  | jpCc cc _ | jrCc cc _ | retCc cc =>
    cases hc : cc.holds s <;> simpa [hc, storedAt] using .nothing
  | ldWide _ _ | incWide _ | decWide _ => simpa [storedAt] using .nothing
  | _ => exact .nothing

end Sys2Proof.Laws

namespace Sys2Proof.Proofs

open Machine Claims Laws

/-- Settles O58: what a form stores (`storesAt_post`) decides each clause. -/
theorem bytesNotStoredToAreKept : Obligations.BytesNotStoredToAreKept := by
  intro i s t h
  have hst : StoresAt s.mem (storedAt i.form s) t.mem := of_exec_eq h ▸ storesAt_post i.form s
  refine ⟨fun hm _ hx => hst.read_of_notMem hm hx, fun hnil => ?_, fun a ha => (ha ▸ hst).eq_write_of_singleton,
    fun a b hab => (hab ▸ hst).eq_writeWord_of_pair, hst.isFlat_eq⟩
  have hmem : t.mem = s.mem := (hnil ▸ hst).eq_of_nil
  exact ⟨hmem, fun x => congrArg (·.read x) hmem⟩

/-- Settles O5, by the laws of the byte port and of the word port. -/
theorem memoryPortsAreLittleEndianAndWrap : Obligations.MemoryPortsAreLittleEndianAndWrap :=
  fun s x v b => ⟨byteStored_write8 s x b, s.read16_toNat x, wordStored_write16 s x v,
    fun h => ⟨s.read16_write16 x v h, s.write16_eq x v h⟩, rfl⟩

/-- Settles O60: each of the environment's moves on a line is one privileged write. -/
theorem environmentMovesKeepInvariant : Obligations.EnvironmentMovesKeepInvariant :=
  fun _ _ x v h => ⟨State.inv_privilegedWrite x v h, State.inv_privilegedWrite _ _ h,
    State.inv_privilegedWrite _ _ h, State.inv_privilegedWrite _ _ h, State.inv_privilegedWrite _ _ h⟩

end Sys2Proof.Proofs
end

section
/-! PROOFS of the statements about the encoding (30_encoding.md). An instruction of a table is an entry of it,
`tableEntry ext op n nn`, and its encoding is the opcode byte with the operands that the entry's format takes up. Both
directions of the round trip, and that the opcode byte selects one entry, are said of entries. -/

namespace Sys2Proof.Laws

open Claims

/-! ## The entries of the two tables -/

section Entry

variable (ext : Bool) (op n : Byte) (nn : Word)

@[simp] theorem opcode_tableEntry : (tableEntry ext op n nn).form.opcode = op := by
  obtain ⟨hop, -⟩ := entry_agrees ext op n nn
  exact hop

@[simp] theorem format_tableEntry : (tableEntry ext op n nn).form.format = entryFormat ext op := by
  obtain ⟨-, -, hformat, -⟩ := entry_agrees ext op n nn
  exact hformat

@[simp] theorem operandBytes_tableEntry :
    (tableEntry ext op n nn).form.operandBytes = operandsOf (entryFormat ext op) n nn := by
  obtain ⟨-, hoperands, -⟩ := entry_agrees ext op n nn
  exact hoperands

@[simp] theorem isExtended_tableEntry : (tableEntry ext op n nn).isExtended = ext := by
  obtain ⟨-, -, -, hext, -⟩ := entry_agrees ext op n nn
  rw [Instr.isExtended, format_tableEntry, hext]

@[simp] theorem length_tableEntry : (tableEntry ext op n nn).length = (entryFormat ext op).length :=
  congrArg Format.length (format_tableEntry ext op n nn)

@[simp] theorem encode_tableEntry :
    encode (tableEntry ext op n nn) = op :: operandsOf (entryFormat ext op) n nn := by
  rw [encode, opcode_tableEntry, operandBytes_tableEntry]

/-- Only the operands that the entry's format takes up matter (R61, R67). -/
theorem tableEntry_kept :
    tableEntry ext op (keptByte (entryFormat ext op) n) (keptWord (entryFormat ext op) nn) =
      tableEntry ext op n nn := by
  obtain ⟨-, -, -, -, hkept⟩ := entry_agrees ext op n nn
  exact hkept.symm

end Entry

/-- An entry of one byte has no operand to differ in. -/
theorem tableEntry_eq_of_length_eq_one {ext : Bool} {op : Byte} (h : (entryFormat ext op).length = 1)
    (n m : Byte) (nn mm : Word) : tableEntry ext op n nn = tableEntry ext op m mm := by
  rw [← tableEntry_kept ext op n, ← tableEntry_kept ext op m]
  cases hf : entryFormat ext op with
  | op1 | cb => rfl
  | op2n | op2e | op3 => rw [hf] at h; exact absurd h (by decide)

/-- The table and the opcode byte of an instruction select the entry that it is. -/
theorem exists_eq_tableEntry {ext : Bool} {op : Byte} {i : Instr} (hext : i.isExtended = ext)
    (hop : i.form.opcode = op) : ∃ n nn, i = tableEntry ext op n nn := by
  obtain ⟨n, nn, hi⟩ := OwnEntry.all i
  exact ⟨n, nn, by rw [← hext, ← hop, hi]⟩

/-- The instructions that EXT admits are the entries of the table it selects (R71). -/
theorem wellFormed_iff_exists_tableEntry (ext : Bool) (i : Instr) :
    i.wellFormed ext = true ↔ ∃ op n nn, i = tableEntry ext op n nn := by
  rw [Instr.wellFormed, beq_iff_eq]
  constructor
  · exact fun hext => ⟨i.form.opcode, exists_eq_tableEntry hext rfl⟩
  · rintro ⟨op, n, nn, rfl⟩
    exact isExtended_tableEntry ext op n nn

/-! ## Decoding an entry's bytes -/

/-- The decoder takes off the operands of the entry that the opcode byte selects, and gives that entry. -/
theorem decode_operandsOf (ext : Bool) (op n : Byte) (nn : Word) (rest : List Byte) :
    decode ext (op :: operandsOf (entryFormat ext op) n nn ++ rest) = .ok (tableEntry ext op n nn, rest) := by
  rw [← tableEntry_kept ext op n nn]
  cases hf : entryFormat ext op with
  | op1 | cb => exact decode_op1 ext op rest (by simp [hf])
  | op2n | op2e => exact decode_op2 ext op n rest (by simp [hf])
  | op3 =>
    have hdecode := decode_op3 ext op (loByte nn) (hiByte nn) rest hf
    rwa [Machine.join_hi_lo] at hdecode

/-- Two bytes are enough for the operands of any format (R61). -/
theorem exists_operandsOf_append (fmt : Format) (b1 b2 : Byte) :
    ∃ n nn rest, operandsOf fmt n nn ++ rest = [b1, b2] := by
  cases fmt with
  | op1 | cb => exact ⟨0, 0, [b1, b2], rfl⟩
  | op2n | op2e => exact ⟨b1, 0, [b2], rfl⟩
  | op3 => exact ⟨0, joinBytes b2 b1, [], by rw [operandsOf, Machine.loByte_join, Machine.hiByte_join]; rfl⟩

/-! ## The length of an encoding -/

/-- The opcode byte and the operand bytes are as many as the column length of R320 says. -/
theorem length_encode (i : Instr) : (encode i).length = lengthOf i.form := by
  rw [encode]
  cases i.form with
  | ld _ src | alu _ src => cases src <;> rfl
  | _ => rfl

end Sys2Proof.Laws

namespace Sys2Proof.Proofs

open Laws

/-- Settles O6: an instruction that EXT admits is an entry, and the decoder gives an entry's bytes back as the entry. -/
theorem decodeOfEncodeIsTheInstruction : Obligations.DecodeOfEncodeIsTheInstruction := by
  intro ext i rest hwf
  obtain ⟨op, n, nn, rfl⟩ := (wellFormed_iff_exists_tableEntry ext i).1 hwf
  rw [encode_tableEntry]
  exact decode_operandsOf ext op n nn rest

/-- Settles O7: what the decoder gives is the entry of the bytes it took off (`decode_ok`). -/
theorem encodeOfDecodeIsTheBytes : Obligations.EncodeOfDecodeIsTheBytes := by
  intro ext bytes i rest h
  obtain ⟨op, n, nn, rfl, rfl, -⟩ := decode_ok h
  exact ⟨by rw [encode_tableEntry], length_encode _,
    (wellFormed_iff_exists_tableEntry ext _).2 ⟨op, n, nn, rfl⟩⟩

/-- Settles O8: three bytes hold the operands of any entry, and every instruction of the table with the opcode is that
entry with operands of its own. -/
theorem decodingIsTotalInBothTables : Obligations.DecodingIsTotalInBothTables := by
  intro ext op b1 b2
  obtain ⟨n, nn, rest, hbytes⟩ := exists_operandsOf_append (entryFormat ext op) b1 b2
  refine ⟨tableEntry ext op n nn, rest, ?_, isExtended_tableEntry .., opcode_tableEntry .., ?_⟩
  · rw [← hbytes]
    exact decode_operandsOf ext op n nn rest
  · intro j hext hop
    obtain ⟨m, mm, rfl⟩ := exists_eq_tableEntry hext hop
    rw [length_tableEntry, length_tableEntry]
    exact ⟨rfl, fun hone => tableEntry_eq_of_length_eq_one hone m n mm nn⟩

/-- Settles O9: each word is the encoding of its instruction, so O6 decodes it. -/
theorem writtenOutWordsDecode : Obligations.WrittenOutWordsDecode :=
  have base := decodeOfEncodeIsTheInstruction false
  have extended := decodeOfEncodeIsTheInstruction true
  ⟨base .ld_b_c [] rfl, base (.ld_hl_nn 0x1234) [] rfl, base .add_a_a [] rfl, base .add_hl_bc [] rfl,
    base (.jr_nz_e 0xFC) [] rfl, base (.call_nn 0x1234) [] rfl, base .halt [] rfl, base .prefix_cb [0x37] rfl,
    extended .swap_a [] rfl, extended .bit_7_at_hl [] rfl, extended .set_1_e [] rfl⟩

end Sys2Proof.Proofs
end

section
/-! PROOFS of the statements about the dispatcher (40_dispatch.md). What an instruction of any form does to PC, to the
low nibble of F and under a shift of CYC is said once, form by form; the statements about `exec` and `step` follow. -/

namespace Sys2Proof.Machine

/-! ## The low nibble of F (R15) under each update

A write of a register goes through `RegFile.set`; no other update touches the register file. -/

section LowNibble

variable {s : State} (hf : s.regs.f &&& 0x0F = 0)

include hf

theorem State.low_f_setReg (r : Reg8) (v : Byte) : (s.setReg r v).regs.f &&& 0x0F = 0 :=
  s.regs.low_set r v hf

theorem State.low_f_setFlags (fl : Flags) : (s.setFlags fl).regs.f &&& 0x0F = 0 :=
  State.low_f_setReg hf .f fl.pack

theorem State.low_f_setPair (p : Pair) (v : Word) : (s.setPair p v).regs.f &&& 0x0F = 0 :=
  State.low_f_setReg (State.low_f_setReg hf p.hi _) p.lo _

theorem State.low_f_setWide (rr : WideReg) (v : Word) : (s.setWide rr v).regs.f &&& 0x0F = 0 := by
  cases rr with
  | bc => exact State.low_f_setPair hf .bc v
  | de => exact State.low_f_setPair hf .de v
  | hl => exact State.low_f_setPair hf .hl v
  | sp => exact hf

theorem State.low_f_put (x : Loc8) (v : Byte) : (x.put v s).regs.f &&& 0x0F = 0 := by
  cases x with
  | reg r => exact State.low_f_setReg hf r.reg v
  | atHl => exact hf

theorem State.low_f_setAF (x : Byte × Flags) : (s.setAF x).regs.f &&& 0x0F = 0 :=
  State.low_f_setFlags (State.low_f_setReg hf .a x.1) x.2

theorem State.low_f_putF (l : Loc8) (x : Byte × Flags) : (s.putF l x).regs.f &&& 0x0F = 0 :=
  State.low_f_setFlags (State.low_f_put hf l x.1) x.2

end LowNibble

/-! ## A shift of CYC goes through every update (R20, R87)

Every reading of the state is blind to `addTicks`, so every update made of readings and writes lets it through. -/

section AddTicks
variable (s : State) (k : Nat)

@[simp] theorem State.setReg_addTicks (r : Reg8) (v : Byte) :
    (s.addTicks k).setReg r v = (s.setReg r v).addTicks k := rfl
@[simp] theorem State.setFlags_addTicks (fl : Flags) :
    (s.addTicks k).setFlags fl = (s.setFlags fl).addTicks k := rfl
@[simp] theorem State.setPair_addTicks (p : Pair) (v : Word) :
    (s.addTicks k).setPair p v = (s.setPair p v).addTicks k := rfl
@[simp] theorem State.setSp_addTicks (v : Word) : (s.addTicks k).setSp v = (s.setSp v).addTicks k := rfl
@[simp] theorem State.setIme_addTicks (v : Bool) : (s.addTicks k).setIme v = (s.setIme v).addTicks k := rfl
@[simp] theorem State.setHalt_addTicks (v : Bool) : (s.addTicks k).setHalt v = (s.setHalt v).addTicks k := rfl
@[simp] theorem State.setExt_addTicks (v : Bool) : (s.addTicks k).setExt v = (s.setExt v).addTicks k := rfl
@[simp] theorem State.write8_addTicks (a : Word) (v : Byte) :
    (s.addTicks k).write8 a v = (s.write8 a v).addTicks k := rfl
@[simp] theorem State.write16_addTicks (a v : Word) :
    (s.addTicks k).write16 a v = (s.write16 a v).addTicks k := rfl
@[simp] theorem State.push16_addTicks (v : Word) : (s.addTicks k).push16 v = (s.push16 v).addTicks k := rfl
@[simp] theorem State.popDone_addTicks : (s.addTicks k).popDone = s.popDone.addTicks k := rfl
@[simp] theorem State.setAF_addTicks (x : Byte × Flags) : (s.addTicks k).setAF x = (s.setAF x).addTicks k := rfl
@[simp] theorem State.setWide_addTicks (rr : WideReg) (v : Word) :
    (s.addTicks k).setWide rr v = (s.setWide rr v).addTicks k := by
  cases rr <;> rfl
@[simp] theorem State.put_addTicks (x : Loc8) (v : Byte) : x.put v (s.addTicks k) = (x.put v s).addTicks k := by
  cases x <;> rfl
@[simp] theorem State.putF_addTicks (l : Loc8) (x : Byte × Flags) :
    (s.addTicks k).putF l x = (s.putF l x).addTicks k := by
  simp [State.putF]

/-- Ticks add up in any order. -/
theorem State.addTicks_comm (n : Nat) : (s.addTicks k).addTicks n = (s.addTicks n).addTicks k :=
  congrArg (fun c => { s with cyc := c }) (Nat.add_right_comm s.cyc k n)

@[simp] theorem State.advance_addTicks (l n : Nat) : (s.addTicks k).advance l n = (s.advance l n).addTicks k :=
  State.addTicks_comm (s.setPc _) k n
@[simp] theorem State.goTo_addTicks (a : Word) (n : Nat) : (s.addTicks k).goTo a n = (s.goTo a n).addTicks k :=
  State.addTicks_comm (s.setPc a) k n

@[simp] theorem State.hl_addTicks : (s.addTicks k).hl = s.hl := rfl
@[simp] theorem State.wide_addTicks (rr : WideReg) : (s.addTicks k).wide rr = s.wide rr := by cases rr <;> rfl
@[simp] theorem State.popValue_addTicks : (s.addTicks k).popValue = s.popValue := rfl
@[simp] theorem State.following_addTicks (n : Nat) : (s.addTicks k).following n = s.following n := rfl
@[simp] theorem State.relativeTarget_addTicks (e : Byte) : (s.addTicks k).relativeTarget e = s.relativeTarget e := rfl
@[simp] theorem State.srcValue_addTicks (x : Src8) : x.value (s.addTicks k) = x.value s := by cases x <;> rfl
@[simp] theorem State.locValue_addTicks (x : Loc8) : x.value (s.addTicks k) = x.value s := by cases x <;> rfl
@[simp] theorem State.holds_addTicks (cc : Cond) : cc.holds (s.addTicks k) = cc.holds s := by cases cc <;> rfl
@[simp] theorem State.fetch_addTicks : (s.addTicks k).fetch = s.fetch := rfl
@[simp] theorem State.firstDispatchable_addTicks : (s.addTicks k).firstDispatchable = s.firstDispatchable := rfl

@[simp] theorem State.haltedStep_addTicks : (s.addTicks k).haltedStep = s.haltedStep.addTicks k :=
  congrArg (·.setHalt (!s.anyRequested)) (s.addTicks_comm k Config.haltQuantum)

@[simp] theorem State.interruptCheck_addTicks : (s.addTicks k).interruptCheck = s.interruptCheck.addTicks k := by
  rw [State.interruptCheck, State.interruptCheck, State.firstDispatchable_addTicks]
  cases s.firstDispatchable with
  | none => rfl
  | some l => exact State.addTicks_comm (s.dispatch l) k _

end AddTicks

end Sys2Proof.Machine

namespace Sys2Proof.Laws

open Machine Claims

/-! ## The invariant over an instruction and over the interrupt check -/

theorem StoresAt.wf {m m' : Memory} {stored : List Word} (h : StoresAt m stored m') (hm : m.wf) : m'.wf := by
  cases h with
  | nothing => exact hm
  | byte a v => exact m.wf_write a v hm
  | word a v => exact m.wf_writeWord a v hm

/-- No instruction leaves a bit in the low nibble of F (R15, R95 (a)). `ldHldA` cites the laws of its updates, as in
`ime_post`. -/
theorem low_f_post (f : Form) {s : State} (hf : s.regs.f &&& 0x0F = 0) : (f.post s).regs.f &&& 0x0F = 0 := by
  cases f with
  | ld dst _ => exact State.low_f_setReg hf dst.reg _
  | ldABc | ldADe | ldANn _ | ldhAN _ | ldhAC => exact State.low_f_setReg hf .a _
  | ldHliA => exact State.low_f_setPair (s := s.write8 _ _) hf .hl _
  | ldHldA =>
    rw [post_ldHldA, State.regs_advance]
    exact State.low_f_setPair (s := s.write8 _ _) hf .hl _
  | ldAHli | ldAHld => exact State.low_f_setPair (State.low_f_setReg hf .a _) .hl _
  | ldWide rr _ | incWide rr | decWide rr => exact State.low_f_setWide hf rr _
  | ldHlSpE _ | addHl _ => exact State.low_f_setFlags (State.low_f_setPair hf .hl _) _
  | pop p => exact State.low_f_setPair (s := s.popDone) hf p _
  | alu _ _ | daa | cpl | rlca | rla | rrca | rra => exact State.low_f_setAF hf _
  | inc x | dec x | rot _ x => exact State.low_f_putF hf x _
  | scf | ccf | bit _ _ => exact State.low_f_setFlags hf _
  | addSpE e => exact State.low_f_setFlags (s := s.setSp _) hf _
  | res _ x | set _ x => exact State.low_f_put hf x _
  | jpCc cc _ | jrCc cc _ | callCc cc _ | retCc cc => cases hc : cc.holds s <;> simpa [hc] using hf
  | _ => exact hf

/-- F by `low_f_post`; memory by what an instruction may store (`storesAt_post`). -/
theorem inv_post (f : Form) {s : State} (h : s.Inv) : (f.post s).Inv := by
  obtain ⟨hf, hm⟩ := h
  exact ⟨low_f_post f hf, (storesAt_post f s).wf hm⟩

theorem inv_interruptCheck {s : State} (h : s.Inv) : s.interruptCheck.Inv := by
  rcases s.interruptCheck_cases with ⟨-, hc⟩ | ⟨l, -, -, hc⟩
  · rwa [hc]
  · obtain ⟨hf, hm⟩ := h
    rw [hc]
    exact ⟨hf, s.wf_dispatch l hm⟩

theorem interruptCheck_of_none {s : State} (h : s.firstDispatchable = none) : s.interruptCheck = s := by
  rw [State.interruptCheck, h]

/-! ## A run, step by step -/

theorem run_succ (M : Host.Core) {s t : M.State} (h : M.step s = .next t) (k : Nat) :
    M.run (k + 1) s = M.run k t := by
  rw [Host.Core.run, h]

/-! ## PC after an instruction -/

theorem length_eq_operandLength (src : Src8) : src.length = operandLength src := by
  cases src <;> rfl

theorem restart_eq (y : Oct) : y.restart = BitVec.ofNat 16 (8 * y.code.toNat) := by
  cases y <;> rfl

/-- The target of a relative jump is the signed sum of D14, reduced modulo 65536. -/
theorem relativeTarget_eq (s : State) (e : Byte) :
    s.relativeTarget e = BitVec.ofInt 16 (s.pc.toNat + 2 + e.toInt) := by
  rw [BitVec.ofInt_add, BitVec.ofInt_add, BitVec.ofInt_natCast, BitVec.ofNat_toNat, BitVec.setWidth_eq]
  rfl

/-- PC is where the table `pcAfter` says (R85, R86). `ldHldA` cites the laws of its updates, as in `ime_post`. -/
theorem pc_post (f : Form) (s : State) : (f.post s).pc = pcAfter f s := by
  cases f with
  | ld _ src | alu _ src => rw [pcAfter, nextPc, lengthOf, ← length_eq_operandLength]; rfl
  | jr e => exact relativeTarget_eq s e
  | rst y => exact restart_eq y
  | jrCc cc e =>
    rw [pcAfter, ← holds_eq_condition, ← relativeTarget_eq, post_jrCc]
    cases cc.holds s <;> rfl
  | jpCc cc _ | callCc cc _ | retCc cc =>
    rw [pcAfter, ← holds_eq_condition, Form.post]
    cases cc.holds s <;> rfl
  | ldHldA => rw [post_ldHldA, State.pc_advance, State.pc_setPair, State.pc_write8]; rfl
  | ldWide rr _ | incWide rr | decWide rr => rw [Form.post, State.pc_advance, State.pc_setWide]; rfl
  | inc x | dec x | rot _ x | res _ x | set _ x => cases x <;> rfl
  | _ => rfl

/-! ## An instruction under a shift of CYC -/

/-- Nothing an instruction does depends on CYC (R20, R87). -/
theorem post_addTicks (f : Form) (s : State) (k : Nat) : f.post (s.addTicks k) = (f.post s).addTicks k := by
  cases f with
  | jpCc cc _ | jrCc cc _ | callCc cc _ | retCc cc => cases hc : cc.holds s <;> simp [hc]
  | reti => exact State.addTicks_comm s.returnFromInterrupt k 16
  | _ => simp

end Sys2Proof.Laws

namespace Sys2Proof.Proofs

open Machine Claims Laws

/-- Settles O59: the halted step writes neither F nor memory; any other step is the interrupt check, then an
instruction, and both keep the invariant. -/
theorem stepKeepsInvariant : Obligations.StepKeepsInvariant := by
  intro s t hinv hst
  rcases step_cases hst with ⟨-, rfl⟩ | ⟨-, rfl⟩
  · exact hinv
  · exact inv_post _ (s := s.interruptCheck.setExt false) (inv_interruptCheck hinv)

/-- Settles O12, by induction on the length of the run: a step always answers (`step_total`). -/
theorem everyRunGoesOnForEver : Obligations.EveryRunGoesOnForEver := by
  intro s k
  induction k generalizing s with
  | zero => exact ⟨s, rfl⟩
  | succ k ih =>
    obtain ⟨t, hst⟩ := step_total s
    obtain ⟨u, hu⟩ := ih t
    exact ⟨u, (run_succ core hst k).trans hu⟩

/-- Settles O13, by the forms: PC is that of the table of targets, CYC grows by the tick table. -/
theorem everyInstructionMovesPcAndTicks : Obligations.EveryInstructionMovesPcAndTicks :=
  fun i s => ⟨i.form.post s, exec_eq i s, pc_post i.form s, cyc_post i.form s⟩

/-- Settles O20: the halted step, the interrupt check, the fetch and the instruction each let a shift of CYC
through. -/
theorem cycleCounterInfluencesNothing : Obligations.CycleCounterInfluencesNothing := by
  intro s t k hst
  rcases step_cases hst with ⟨hhalt, rfl⟩ | ⟨hrun, rfl⟩
  · rw [step_halted (s.addTicks k) hhalt, State.haltedStep_addTicks]
  · rw [step_running (s.addTicks k) hrun, State.interruptCheck_addTicks, State.setExt_addTicks,
      State.fetch_addTicks, post_addTicks]

/-- Settles O2: F is zero at reset and memory lists nothing. -/
theorem resetSatisfiesInvariant : Obligations.ResetSatisfiesInvariant :=
  ⟨rfl, State.reset_memory_wf⟩

/-- Settles O10: the interrupt check leaves the state, and the fetch is what the decoder reads. -/
theorem stepRunsDecodedInstruction : Obligations.StepRunsDecodedInstruction := by
  intro s i rest hrun hnone hdecode
  rw [step_running s hrun, interruptCheck_of_none hnone, State.fetch_of_decode hdecode, exec_eq]

/-- Settles O15: bits 4:0 of IF are the wake condition of the halted step. -/
theorem haltedStepOnlyPollsRequests : Obligations.HaltedStepOnlyPollsRequests := by
  intro s hhalt
  have hwake : (!s.anyRequested) = decide ((s.read8 0xFF0F).toNat % 32 = 0) := by
    rw [Bool.eq_iff_iff, Bool.not_eq_true', Bool.eq_false_iff, decide_eq_true_iff, ← not_iff_not, not_not]
    exact and_line_bits_ne_zero_iff _
  rw [step_halted s hhalt, State.haltedStep, hwake]
  rfl

end Sys2Proof.Proofs
end

section
/-! PROOFS of the statements about the 8-bit loads and stores (41_loads8.md). What each update of the state leaves
unchanged is said once, as a rule about `Kept`; each shape of load and of store is then one lemma about the state
`Form.post` gives, and a statement is that lemma at its forms. -/

namespace Sys2Proof.Laws

open Machine Claims

/-! ## The frame, one rule per update

`s` is the state an instruction starts from, `t` the state after some of its updates. -/

section Frame

variable {s t : State} {rs : List Reg8}

theorem kept_refl (s : State) (rs : List Reg8) : Kept s s rs :=
  ⟨fun _ _ => rfl, rfl, rfl, rfl, rfl⟩

theorem kept_setReg (h : Kept s t rs) {r : Reg8} (hr : r ∈ rs) (v : Byte) : Kept s (t.setReg r v) rs := by
  obtain ⟨hreg, hstate⟩ := h
  refine ⟨fun q hq => ?_, hstate⟩
  have hne : q ≠ r := fun e => hq (e ▸ hr)
  rw [State.reg_setReg_of_ne _ _ _ _ hne, hreg q hq]

theorem kept_setPair (h : Kept s t rs) {p : Pair} (hhi : p.hi ∈ rs) (hlo : p.lo ∈ rs) (v : Word) :
    Kept s (t.setPair p v) rs :=
  kept_setReg (kept_setReg h hhi _) hlo _

theorem kept_write8 (h : Kept s t rs) (a : Word) (v : Byte) : Kept s (t.write8 a v) rs := h

theorem kept_advance (h : Kept s t rs) (l n : Nat) : Kept s (t.advance l n) rs := h

/-- Updates that keep SP, PC, CYC and memory, then the automatic advance. -/
theorem regsOnly_advance (h : Kept s t rs) (hsp : t.sp = s.sp) (hpc : t.pc = s.pc) (hcyc : t.cyc = s.cyc)
    (hmem : t.mem = s.mem) (l n : Nat) : RegsOnly s (t.advance l n) rs l n :=
  ⟨kept_advance h l n, hsp, ⟨hmem, fun x => congrArg (·.read x) hmem⟩,
    congrArg (· + BitVec.ofNat 16 l) hpc, congrArg (· + n) hcyc⟩

/-- The bytes of memory follow from the one write that it was given. -/
theorem byteStored_of_mem_eq {a : Word} {v : Byte} (h : t.mem = s.mem.write a v) : ByteStored s t a v :=
  ⟨h, fun hflat x => (congrArg (·.read x) h).trans (s.mem.read_write a x v hflat)⟩

end Frame

/-! ## The shapes of 41_loads8.md -/

/-- A high-page address as the one sum of D36. -/
theorem highPageAddr_eq (n : Byte) : highPageAddr n = BitVec.ofNat 16 (0xFF00 + n.toNat) := by
  apply BitVec.eq_of_toNat_eq
  simp [highPageAddr, Config.highPage, zext16]

theorem ld_movesOneByte (dst : OpReg) (src : Src8) (s : State) :
    ∃ t, exec (Form.ld dst src).instr s = .next t ∧ RegsOnly s t [dst.reg] src.length src.ticks ∧
      t.reg dst.reg = src.value s := by
  have hkept : Kept s (s.setReg dst.reg (src.value s)) [dst.reg] :=
    kept_setReg (kept_refl s _) (List.mem_singleton_self _) _
  exact ⟨_, exec_instr _ s, regsOnly_advance hkept rfl rfl rfl rfl _ _, s.reg_setOpReg dst _⟩

section Shapes

variable {f : Form} {addr : State → Word} {value : State → Byte} {step : Word} {l n : Nat}

theorem loadsAFrom_of_post (h : ∀ s, f.post s = (s.setReg .a (s.read8 (addr s))).advance l n) :
    LoadsAFrom f addr l n := by
  intro s
  have hkept : Kept s (s.setReg .a (s.read8 (addr s))) [.a] := kept_setReg (kept_refl s _) (by decide) _
  refine ⟨_, exec_instr f s, ?_⟩
  rw [h]
  exact ⟨regsOnly_advance hkept rfl rfl rfl rfl l n, s.reg_setReg_self .a _⟩

theorem loadsAStepping_of_post
    (h : ∀ s, f.post s = ((s.setReg .a (s.read8 s.hl)).setPair .hl (s.hl + step)).advance 1 8) :
    LoadsAStepping f step := by
  intro s
  have hkept : Kept s ((s.setReg .a (s.read8 s.hl)).setPair .hl (s.hl + step)) [.a, .h, .l] :=
    kept_setPair (kept_setReg (kept_refl s _) (by decide) _) (by decide) (by decide) _
  refine ⟨_, exec_instr f s, ?_⟩
  rw [h]
  refine ⟨regsOnly_advance hkept rfl rfl rfl rfl 1 8, ?_, State.pair_setPair_self _ .hl _ nofun⟩
  rw [State.reg_advance, State.reg_setPair_of_ne _ _ _ _ (by decide) (by decide)]
  exact s.reg_setReg_self .a _

theorem storesTo_of_post (h : ∀ s, f.post s = (s.write8 (addr s) (value s)).advance l n) :
    StoresTo f addr value l n := by
  intro s
  refine ⟨_, exec_instr f s, ?_⟩
  rw [h]
  exact ⟨kept_advance (kept_write8 (kept_refl s []) _ _) l n, rfl, byteStored_of_mem_eq rfl, rfl, rfl⟩

theorem storesAStepping_of_post
    (h : ∀ s, f.post s = ((s.write8 s.hl (s.reg .a)).setPair .hl (s.hl + step)).advance 1 8) :
    StoresAStepping f step := by
  intro s
  have hkept : Kept s ((s.write8 s.hl (s.reg .a)).setPair .hl (s.hl + step)) [.h, .l] :=
    kept_setPair (kept_write8 (kept_refl s _) _ _) (by decide) (by decide) _
  refine ⟨_, exec_instr f s, ?_⟩
  rw [h]
  exact ⟨kept_advance hkept 1 8, rfl, byteStored_of_mem_eq rfl, State.pair_setPair_self _ .hl _ nofun, rfl, rfl⟩

end Shapes

end Sys2Proof.Laws

namespace Sys2Proof.Proofs

open Machine Claims Laws

/-- Settles O26: the three rules are one shape of load, at its three kinds of source. -/
theorem registerLoadsMoveOneByte : Obligations.RegisterLoadsMoveOneByte :=
  ⟨fun dst r s => ld_movesOneByte dst (.reg r) s, fun dst n s => ld_movesOneByte dst (.imm n) s,
    fun dst s => ld_movesOneByte dst .atHl s⟩

/-- Settles O27: five addresses of one shape, and the two loads that step HL. -/
theorem accumulatorLoadsReadTheirAddress : Obligations.AccumulatorLoadsReadTheirAddress := by
  refine ⟨loadsAFrom_of_post post_ldABc, loadsAFrom_of_post post_ldADe, fun nn => loadsAFrom_of_post (post_ldANn nn),
    fun n => loadsAFrom_of_post fun s => ?_, loadsAFrom_of_post fun s => ?_, loadsAStepping_of_post post_ldAHli, ?_⟩
  · rw [post_ldhAN, highPageAddr_eq]
  · rw [post_ldhAC, highPageAddr_eq]
  · rw [zero_sub]
    exact loadsAStepping_of_post post_ldAHld

/-- Settles O28: seven places of one shape, and the two stores that step HL. -/
theorem storesWriteOneByte : Obligations.StoresWriteOneByte := by
  refine ⟨fun r => storesTo_of_post (post_ldToHl r), fun n => storesTo_of_post (post_ldHlImm n),
    storesTo_of_post post_ldBcA, storesTo_of_post post_ldDeA, fun nn => storesTo_of_post (post_ldNnA nn),
    fun n => storesTo_of_post fun s => ?_, storesTo_of_post fun s => ?_, storesAStepping_of_post post_ldHliA, ?_⟩
  · rw [post_ldhNA, highPageAddr_eq]
  · rw [post_ldhCA, highPageAddr_eq]
  · rw [zero_sub]
    exact storesAStepping_of_post post_ldHldA

end Sys2Proof.Proofs
end

section
/-! PROOFS of the statements about the 16-bit loads and the stack (42_loads16_stack.md). What a pair, AF included, reads
after a word is written to it, and the frame of the updates of SP and of the stack, are said once; a load into a pair, a
load into SP, `PUSH` and `POP` are then one lemma each, about the state `Form.post` gives. -/

namespace Sys2Proof.Machine

/-! ## AF as a pair: its low half goes through the mask of F (R15) -/

theorem getLsbD_maskF (v : Byte) {i : Nat} (hlo : 4 ≤ i) (hhi : i < 8) : (maskF v).getLsbD i = v.getLsbD i := by
  have hbit : (0xF0 : Byte).getLsbD i = true := by interval_cases i <;> rfl
  rw [maskF, BitVec.getLsbD_and, hbit, Bool.and_true]

/-- Masking the low half of a word is masking the word (R322). -/
theorem joinBytes_maskF_loByte (v : Word) : joinBytes (hiByte v) (maskF (loByte v)) = v &&& 0xFFF0 :=
  calc joinBytes (hiByte v) (maskF (loByte v))
      = (hiByte v &&& BitVec.allOnes 8) ++ (loByte v &&& 0xF0#8) := by rw [BitVec.and_allOnes]; rfl
    _ = joinBytes (hiByte v) (loByte v) &&& 0xFFF0 := BitVec.and_append.symm
    _ = v &&& 0xFFF0 := by rw [join_hi_lo]

theorem State.reg_f_setPair_af (s : State) (v : Word) : (s.setPair .af v).reg .f = maskF (loByte v) := by
  rw [State.reg_setPair]; rfl

/-- A pair reads the word written to it; AF without the bits 3:0 that F has not. -/
theorem State.pair_setPair (s : State) (p : Pair) (v : Word) :
    (s.setPair p v).pair p = if p = .af then v &&& 0xFFF0 else v := by
  by_cases hp : p = .af
  · subst hp
    rw [if_pos rfl, ← joinBytes_maskF_loByte, ← s.reg_f_setPair_af]; rfl
  · rw [if_neg hp, State.pair_setPair_self s p v hp]

/-- The flags written with AF are bits 7 to 4 of its low half (R14, R138). -/
theorem State.flags_setPair_af (s : State) (v : Word) :
    (s.setPair .af v).flags =
      ⟨(loByte v).getLsbD 7, (loByte v).getLsbD 6, (loByte v).getLsbD 5, (loByte v).getLsbD 4⟩ := by
  simp (disch := decide) only [State.flags, State.reg_f_setPair_af, getLsbD_maskF]

end Sys2Proof.Machine

namespace Sys2Proof.Laws

open Machine Claims

/-! ## The frame of the updates of SP and of the stack -/

section Frame

variable {s t : State} {rs : List Reg8}

theorem kept_setSp (h : Kept s t rs) (v : Word) : Kept s (t.setSp v) rs := h

theorem kept_write16 (h : Kept s t rs) (a v : Word) : Kept s (t.write16 a v) rs := h

theorem kept_push16 (h : Kept s t rs) (v : Word) : Kept s (t.push16 v) rs :=
  kept_write16 (kept_setSp h _) _ v

theorem kept_popDone (h : Kept s t rs) : Kept s t.popDone rs := kept_setSp h _

theorem memoryKept_of_mem_eq (h : t.mem = s.mem) : MemoryKept s t := ⟨h, fun x => congrArg (·.read x) h⟩

theorem wordStored_push16 (s : State) (v : Word) : WordStored s (s.push16 v) (s.sp - 2) v :=
  ⟨rfl, fun h x => s.read8_push16 v x h⟩

end Frame

/-! ## The shapes of 42_loads16_stack.md -/

/-- A load of a word into an operand of the table `rp` that is a pair. -/
theorem ldWide_loadsPair {rr : WideReg} {p : Pair} (hset : ∀ s v, State.setWide s rr v = s.setPair p v)
    (hp : p ≠ .af) (nn : Word) (s : State) :
    ∃ t, exec (Form.ldWide rr nn).instr s = .next t ∧ RegsOnly s t [p.hi, p.lo] 3 12 ∧ t.pair p = nn := by
  have hkept : Kept s (s.setPair p nn) [p.hi, p.lo] := kept_setPair (kept_refl s _) (by simp) (by simp) nn
  refine ⟨_, exec_instr _ s, ?_⟩
  rw [post_ldWide, hset]
  exact ⟨regsOnly_advance hkept rfl rfl rfl rfl 3 12, s.pair_setPair_self p nn hp⟩

theorem loadsSp_of_post {f : Form} {value : State → Word} {l n : Nat}
    (h : ∀ s, f.post s = (s.setSp (value s)).advance l n) (s : State) :
    ∃ t, exec f.instr s = .next t ∧ Kept s t [] ∧ MemoryKept s t ∧ Advanced s t l n ∧ t.sp = value s := by
  refine ⟨_, exec_instr f s, ?_⟩
  rw [h]
  exact ⟨kept_advance (kept_setSp (kept_refl s []) _) l n, memoryKept_of_mem_eq rfl, ⟨rfl, rfl⟩, rfl⟩

/-- What `POP` of any pair does, but for the value the pair takes. -/
theorem pop_frame (p : Pair) (s : State) :
    Kept s ((Form.pop p).post s) [p.hi, p.lo] ∧ ((Form.pop p).post s).sp = s.sp + 2 ∧
      MemoryKept s ((Form.pop p).post s) ∧ Advanced s ((Form.pop p).post s) 1 12 :=
  have hkept : Kept s (s.popDone.setPair p s.popValue) [p.hi, p.lo] :=
    kept_setPair (kept_popDone (kept_refl s _)) (by simp) (by simp) _
  ⟨kept_advance hkept 1 12, rfl, memoryKept_of_mem_eq rfl, rfl, rfl⟩

/-- The value a pop takes is the word at SP of the statements. -/
theorem popValue_eq_wordAtSp (s : State) : s.popValue = wordAtSp s := rfl

/-- The pair popped holds the word at SP; AF drops its bits 3:0. -/
theorem pair_post_pop (p : Pair) (s : State) :
    ((Form.pop p).post s).pair p = if p = .af then wordAtSp s &&& 0xFFF0 else wordAtSp s := by
  rw [post_pop, popValue_eq_wordAtSp]
  exact s.popDone.pair_setPair p _

/-- In the reference memory the word at SP after `PUSH` is the pair pushed. -/
theorem wordAtSp_post_push (p : Pair) (s : State) (hm : s.mem.isFlat = true) :
    wordAtSp ((Form.push p).post s) = s.pair p := by
  rw [← popValue_eq_wordAtSp]
  exact s.popValue_push16 (s.pair p) hm

/-- In the reference memory the byte at the new SP after `PUSH AF` is F, whose bits 3:0 are zero. -/
theorem low_nibble_post_push_af (s : State) (hm : s.mem.isFlat = true) :
    ((Form.push .af).post s).read8 (s.sp - 2) &&& 0x0F = 0 := by
  have hread : ((Form.push .af).post s).read8 (s.sp - 2) = s.reg .f := by
    rw [post_push, State.read8_advance, State.read8_push16 _ _ _ hm, if_neg (Word.add_one_ne _).symm, if_pos rfl]
    exact loByte_join (s.reg .a) (s.reg .f)
  rw [hread]
  exact maskF_low s.regs.f

end Sys2Proof.Laws

namespace Sys2Proof.Proofs

open Machine Claims Laws

/-- Settles O34: the pop takes what memory answers at SP, which in the reference memory is the word pushed, and adds the
2 that the push subtracted. -/
theorem popAfterPushRestoresWordAndSp : Obligations.PopAfterPushRestoresWordAndSp := by
  intro p q s t h
  have ht : t = (Form.push p).post s := by rw [of_exec_eq h, form_instr]
  refine ⟨_, exec_instr (.pop q) t, ?_, pair_post_pop q t, fun hm => ?_⟩
  · rw [ht]
    exact BitVec.sub_add_cancel s.sp 2
  · rw [pair_post_pop, ht, wordAtSp_post_push p s hm]

/-- Settles O29: three pairs by one lemma, and the two loads of SP by another. -/
theorem wideLoadsSetPairOrSp : Obligations.WideLoadsSetPairOrSp :=
  ⟨ldWide_loadsPair (p := .bc) (fun _ _ => rfl) nofun, ldWide_loadsPair (p := .de) (fun _ _ => rfl) nofun,
    ldWide_loadsPair (p := .hl) (fun _ _ => rfl) nofun, fun nn => loadsSp_of_post (post_ldWide .sp nn),
    loadsSp_of_post post_ldSpHl⟩

/-- Settles O30: the instruction is one word write, then the advance. -/
theorem storeOfSpWritesOneWord : Obligations.StoreOfSpWritesOneWord := fun nn s =>
  ⟨_, exec_instr (.ldNnSp nn) s, kept_advance (kept_write16 (kept_refl s []) nn s.sp) 3 20, rfl,
    wordStored_write16 s nn s.sp, rfl, rfl⟩

/-- Settles O32: the instruction is one push, then the advance; AF pushed has the low nibble of F, which is zero. -/
theorem pushStoresPairBelowSp : Obligations.PushStoresPairBelowSp := by
  intro p s
  refine ⟨_, exec_instr (.push p) s, kept_advance (kept_push16 (kept_refl s []) _) 1 16, rfl,
    wordStored_push16 s _, ⟨rfl, rfl⟩, ?_⟩
  rintro rfl
  exact ⟨low_nibble_pair_af s, low_nibble_post_push_af s⟩

/-- Settles O33: one frame for every pair; into AF the word at SP goes through the mask of F. -/
theorem popLoadsPairFromSp : Obligations.PopLoadsPairFromSp := by
  refine ⟨fun p s hp => ?_, fun s => ?_⟩
  · obtain ⟨hkept, hsp, hmem, hadv⟩ := pop_frame p s
    exact ⟨_, exec_instr (.pop p) s, hkept, hsp, hmem, hadv, by rw [pair_post_pop, if_neg hp]⟩
  · obtain ⟨hkept, hsp, hmem, hadv⟩ := pop_frame .af s
    have hlo : loByte s.popValue = s.read8 s.sp := loByte_join _ _
    refine ⟨_, exec_instr (.pop .af) s, hkept, hsp, hmem, hadv, hiByte_join _ _, ?_, ?_⟩
    · rw [← hlo]
      exact s.popDone.reg_f_setPair_af s.popValue
    · rw [← hlo]
      exact s.popDone.flags_setPair_af s.popValue

end Sys2Proof.Proofs
end

section
/-! PROOFS of the statements about the 8-bit arithmetic and logic (43_alu8.md). Each operation on bytes is first put in
the terms of the statements, with no state in it; an instruction is then its operation on the accumulator or on a
location, with one frame for each of the two. -/

namespace Sys2Proof.Machine

/-! ## A byte cut from an unbounded integer -/

theorem ofInt_toNat (v : Byte) : BitVec.ofInt 8 v.toNat = v := by
  rw [BitVec.ofInt_natCast, BitVec.ofNat_toNat, BitVec.setWidth_eq]

theorem ofInt_sub {w : Nat} (x y : Int) : BitVec.ofInt w (x - y) = BitVec.ofInt w x - BitVec.ofInt w y := by
  rw [Int.sub_eq_add_neg, BitVec.ofInt_add, BitVec.ofInt_neg, BitVec.sub_eq_add_neg]

theorem ofInt_eq_zero_iff (x : Int) : BitVec.ofInt 8 x = 0 ↔ x % 256 = 0 := by
  rw [BitVec.toNat_eq, BitVec.toNat_ofInt]
  show (x % 256).toNat = 0 ↔ x % 256 = 0
  omega

/-- Z of a difference is Z of its byte (D33). -/
theorem emod_beq_zero (x : Int) : (x % 256 == 0) = decide (BitVec.ofInt 8 x = 0) :=
  decide_eq_decide.mpr (ofInt_eq_zero_iff x).symm

/-! ## The operations on bytes -/

theorem bitNat_eq_toNat (b : Bool) : bitNat b = b.toNat := by cases b <;> rfl

theorem adc8_eq (c : Bool) (a v : Byte) :
    adc8 c a v = (BitVec.ofNat 8 (a.toNat + v.toNat + c.toNat),
      ⟨decide ((a.toNat + v.toNat + c.toNat) % 256 = 0), false,
        decide (a.toNat % 16 + v.toNat % 16 + c.toNat > 15), decide (a.toNat + v.toNat + c.toNat > 255)⟩) := by
  rw [← bitNat_eq_toNat]; rfl

theorem sub8_fst (a v : Byte) : (sub8 a v).1 = a - v := by
  show BitVec.ofInt 8 (a.toNat - v.toNat) = a - v
  rw [ofInt_sub, ofInt_toNat, ofInt_toNat]

theorem sub8_snd (a v : Byte) :
    (sub8 a v).2 = ⟨decide (a = v), true, decide (a.toNat % 16 < v.toNat % 16), decide (a.toNat < v.toNat)⟩ := by
  have hz : (sub8 a v).2.z = decide (a = v) := by
    simp only [← sub_eq_zero (a := a), ← sub8_fst]
    exact emod_beq_zero _
  have hc : (sub8 a v).2.c = decide (a.toNat < v.toNat) := decide_eq_decide.mpr (by omega)
  rw [← hz, ← hc]; rfl

theorem sbc8_fst (c : Bool) (a v : Byte) : (sbc8 c a v).1 = a - v - BitVec.ofNat 8 c.toNat := by
  show BitVec.ofInt 8 (a.toNat - v.toNat - bitNat c) = _
  rw [ofInt_sub, ofInt_sub, ofInt_toNat, ofInt_toNat, BitVec.ofInt_natCast, bitNat_eq_toNat]

theorem sbc8_snd (c : Bool) (a v : Byte) :
    (sbc8 c a v).2 = ⟨decide (a - v - BitVec.ofNat 8 c.toNat = 0), true,
      decide (a.toNat % 16 < v.toNat % 16 + c.toNat), decide (a.toNat < v.toNat + c.toNat)⟩ := by
  have hz : (sbc8 c a v).2.z = decide (a - v - BitVec.ofNat 8 c.toNat = 0) := by
    rw [← sbc8_fst]
    exact emod_beq_zero _
  have hh : (sbc8 c a v).2.h = decide (a.toNat % 16 < v.toNat % 16 + c.toNat) := by
    rw [← bitNat_eq_toNat]
    exact decide_eq_decide.mpr (by unfold lowNibble; omega)
  have hc : (sbc8 c a v).2.c = decide (a.toNat < v.toNat + c.toNat) := by
    rw [← bitNat_eq_toNat]
    exact decide_eq_decide.mpr (by omega)
  rw [← hz, ← hh, ← hc]; rfl

theorem inc8_eq (old : Flags) (v : Byte) :
    inc8 old v = (v + 1, ⟨decide (v + 1 = 0), false, decide (v.toNat % 16 = 15), old.c⟩) := by
  rw [show v + 1 = BitVec.ofNat 8 (v.toNat + 1) from rfl]; rfl

theorem dec8_eq (old : Flags) (v : Byte) :
    dec8 old v = (v - 1, ⟨decide (v - 1 = 0), true, decide (v.toNat % 16 = 0), old.c⟩) := by
  have hsub : BitVec.ofInt 8 (v.toNat - 1) = v - 1 := by rw [ofInt_sub, ofInt_toNat]; rfl
  rw [← hsub]; rfl

/-! ## DAA (R188) -/

theorem daa8_z (old : Flags) (a : Byte) : (daa8 old a).2.z = decide ((daa8 old a).1 = 0) := emod_beq_zero _

theorem daa8_c_of_add {old : Flags} (hn : old.n = false) (a : Byte) :
    (daa8 old a).2.c = (old.c || decide (a.toNat > 0x99)) := by
  simp [daa8, daaValue, hn]

theorem daa8_toNat_of_add {old : Flags} (hn : old.n = false) (a : Byte) :
    (daa8 old a).1.toNat = (a.toNat + (if (daa8 old a).2.c then 0x60 else 0) +
      (if old.h || decide (a.toNat % 16 > 9) then 6 else 0)) % 256 := by
  have hvalue : (daaValue old a).1 = ((a.toNat + (if (daa8 old a).2.c then 0x60 else 0) +
      (if old.h || decide (a.toNat % 16 > 9) then 6 else 0) : Nat) : Int) := by
    rw [daa8_c_of_add hn]
    simp [daaValue, hn, lowNibble]
  show (BitVec.ofInt 8 (daaValue old a).1).toNat = _
  rw [hvalue, BitVec.ofInt_natCast, BitVec.toNat_ofNat]

theorem daa8_c_of_sub {old : Flags} (hn : old.n = true) (a : Byte) : (daa8 old a).2.c = old.c := by
  simp [daa8, daaValue, hn]

theorem daa8_fst_of_sub {old : Flags} (hn : old.n = true) (a : Byte) :
    (daa8 old a).1 = a - (if old.c then 0x60 else 0) - (if old.h then 6 else 0) := by
  simp only [daa8, daaValue, hn, if_true, ofInt_sub, ofInt_toNat]
  split <;> split <;> rfl

end Sys2Proof.Machine

namespace Sys2Proof.Laws

open Machine Claims

/-! ## DAA after the sum of two BCD bytes (S4)

The statements about digits are of `m` and `n` below 100, whose digits are the nibbles of their BCD bytes. -/

theorem bcd_toNat {n : Nat} (hn : n < 100) : (bcd n).toNat = n / 10 * 16 + n % 10 := by
  rw [bcd, BitVec.toNat_ofNat]
  exact Nat.mod_eq_of_lt (by omega)

theorem bcd_eq_zero_iff {n : Nat} (hn : n < 100) : bcd n = 0 ↔ n = 0 := by
  rw [BitVec.toNat_eq, bcd_toNat hn]
  show _ = 0 ↔ _
  omega

section BcdSum

variable {m n : Nat} (hm : m < 100) (hn : n < 100)
include hm hn

theorem toNat_add8_bcd :
    (add8 (bcd m) (bcd n)).1.toNat = (m / 10 * 16 + m % 10 + (n / 10 * 16 + n % 10)) % 256 := by
  rw [← bcd_toNat hm, ← bcd_toNat hn]
  exact BitVec.toNat_ofNat _ _

/-- The low digit is adjusted exactly if the low digits' sum exceeds 9. -/
theorem lowDigit_adjust_iff :
    ((add8 (bcd m) (bcd n)).2.h || decide ((add8 (bcd m) (bcd n)).1.toNat % 16 > 9)) =
      decide (m % 10 + n % 10 > 9) := by
  have hh : (add8 (bcd m) (bcd n)).2.h = decide (m % 10 + n % 10 > 15) := by
    refine decide_eq_decide.mpr ?_
    rw [lowNibble, lowNibble, bcd_toNat hm, bcd_toNat hn]
    omega
  rw [hh, toNat_add8_bcd hm hn, ← Bool.decide_or]
  exact decide_eq_decide.mpr (by omega)

/-- The carry after `DAA` is set exactly if the true sum exceeds 99. -/
theorem carry_daa8_add8_bcd :
    (daa8 (add8 (bcd m) (bcd n)).2 (add8 (bcd m) (bcd n)).1).2.c = decide (m + n > 99) := by
  have hc : (add8 (bcd m) (bcd n)).2.c = decide (m / 10 * 16 + m % 10 + (n / 10 * 16 + n % 10) > 255) := by
    rw [← bcd_toNat hm, ← bcd_toNat hn]; rfl
  have hlarge : m + n > 99 ↔ m / 10 * 16 + m % 10 + (n / 10 * 16 + n % 10) > 0x99 := by omega
  rw [daa8_c_of_add rfl, hc, toNat_add8_bcd hm hn, ← Bool.decide_or, decide_eq_decide, hlarge]
  omega

theorem fst_daa8_add8_bcd :
    (daa8 (add8 (bcd m) (bcd n)).2 (add8 (bcd m) (bcd n)).1).1 = bcd ((m + n) % 100) := by
  apply BitVec.eq_of_toNat_eq
  rw [daa8_toNat_of_add rfl, carry_daa8_add8_bcd hm hn, lowDigit_adjust_iff hm hn, toNat_add8_bcd hm hn,
    bcd_toNat (Nat.mod_lt _ (by decide))]
  simp only [decide_eq_true_eq]
  split <;> split <;> omega

end BcdSum

/-! ## The frame of the flags and of the two composite updates -/

theorem kept_setFlags {s t : State} {rs : List Reg8} (h : Kept s t rs) (hf : .f ∈ rs) (fl : Flags) :
    Kept s (t.setFlags fl) rs :=
  kept_setReg h hf _

theorem regsOnly_setAF (s : State) (x : Byte × Flags) (l n : Nat) :
    RegsOnly s ((s.setAF x).advance l n) [.a, .f] l n := by
  have hkept : Kept s (s.setAF x) [.a, .f] := kept_setFlags (kept_setReg (kept_refl s _) (by decide) _) (by decide) _
  exact regsOnly_advance hkept rfl rfl rfl rfl l n

theorem regsOnly_setFlags (s : State) (fl : Flags) (l n : Nat) :
    RegsOnly s ((s.setFlags fl).advance l n) [.f] l n :=
  regsOnly_advance (kept_setFlags (kept_refl s _) (by decide) fl) rfl rfl rfl rfl l n

theorem regsOnly_putF_reg (s : State) (r : OpReg) (x : Byte × Flags) (l n : Nat) :
    RegsOnly s ((s.putF (.reg r) x).advance l n) [r.reg, .f] l n := by
  have hkept : Kept s (s.putF (.reg r) x) [r.reg, .f] :=
    kept_setFlags (kept_setReg (kept_refl s _) (by simp) _) (by simp) _
  exact regsOnly_advance hkept rfl rfl rfl rfl l n

theorem reg_putF_self (s : State) (r : OpReg) (x : Byte × Flags) : (s.putF (.reg r) x).reg r.reg = x.1 :=
  (State.reg_setFlags_op _ x.2 r).trans (s.reg_setOpReg r x.1)

theorem reg_a_setAF (s : State) (x : Byte × Flags) : (s.setAF x).reg .a = x.1 := s.reg_setAF x .a nofun

/-! ## The shapes of 43_alu8.md -/

theorem value_eq_operand (src : Src8) (s : State) : src.value s = operand src s := by
  cases src <;> rfl

/-- A two-operand instruction is its operation on bytes. -/
theorem accResult_of_apply {op : AluOp} {P : Byte → Byte → Bool → Byte → Flags → Prop}
    (h : ∀ a v c, P a v c (op.apply c a v).1 (op.apply c a v).2) : AccResult op P := by
  intro src s
  refine ⟨_, exec_instr _ s, ?_⟩
  rw [post_alu, length_eq_operandLength, ticks_eq_operandTicks, value_eq_operand]
  refine ⟨regsOnly_setAF s _ _ _, ?_⟩
  rw [State.reg_advance, State.flags_advance, reg_a_setAF, State.flags_setAF]
  exact h _ _ _

/-- An instruction on a location is its operation on the byte there. -/
theorem locResult_of_post {f : Loc8 → Form} {g : Flags → Byte → Byte × Flags}
    {P : Byte → Flags → Byte → Flags → Prop}
    (hpost : ∀ x s, (f x).post s = (s.putF x (g s.flags (x.value s))).advance 1 x.modifyTicks)
    (h : ∀ v fl, P v fl (g fl v).1 (g fl v).2) : LocResult f P := by
  refine ⟨fun r s => ⟨_, exec_instr _ s, ?_⟩, fun s => ⟨_, (g s.flags (s.read8 s.hl)).1, exec_instr _ s, ?_⟩⟩
  · rw [hpost]
    refine ⟨regsOnly_putF_reg s r _ 1 4, ?_⟩
    rw [State.reg_advance, State.flags_advance, reg_putF_self, State.flags_putF]
    exact h _ _
  · rw [hpost]
    have hkept : Kept s (s.putF .atHl (g s.flags (s.read8 s.hl))) [.f] :=
      kept_setFlags (kept_write8 (kept_refl s _) s.hl _) (by decide) _
    refine ⟨kept_advance hkept 1 12, rfl, byteStored_of_mem_eq rfl, ⟨rfl, rfl⟩, ?_⟩
    rw [State.flags_advance, State.flags_putF]
    exact h _ _

end Sys2Proof.Laws

namespace Sys2Proof.Proofs

open Machine Claims Laws

/-- Settles O39: the byte comes back by `v + 1 - 1 = v`, and H of the decrement tests the nibble that the increment
left. -/
theorem incThenDecRestoresRegister : Obligations.IncThenDecRestoresRegister := by
  intro r s t hexec
  have ht : t = (s.putF (.reg r) (inc8 s.flags (s.reg r.reg))).advance 1 4 := by
    rw [of_exec_eq hexec, form_instr]; rfl
  have hreg : t.reg r.reg = s.reg r.reg + 1 := by
    rw [ht, State.reg_advance, reg_putF_self, inc8_eq]
  have hcarry : t.flags.c = s.flags.c := by
    rw [ht, State.flags_advance, State.flags_putF, inc8_eq]
  have hback : s.reg r.reg + 1 - 1 = s.reg r.reg := BitVec.add_sub_cancel _ _
  have hnibble : (s.reg r.reg + 1).toNat % 16 = 0 ↔ (s.reg r.reg).toNat % 16 = 15 := by
    rw [BitVec.toNat_add]
    show (_ + 1) % 256 % 16 = 0 ↔ _
    omega
  refine ⟨_, exec_instr _ t, ?_⟩
  rw [post_dec, State.reg_advance, State.flags_advance, reg_putF_self, State.flags_putF,
    show (Loc8.reg r).value t = t.reg r.reg from rfl, hreg, dec8_eq, hback, hcarry, decide_eq_decide.mpr hnibble]
  exact ⟨rfl, rfl⟩

/-- Settles O41: `ADD` then `DAA` on the two BCD bytes, by the carries out of the two digits. -/
theorem daaCorrectsBcdSums : Obligations.DaaCorrectsBcdSums := by
  intro m n s hm hn ha
  have hmod : (m + n) % 100 < 100 := Nat.mod_lt _ (by decide)
  refine ⟨_, _, exec_instr _ s, exec_instr .daa _, ?_⟩
  simp only [post_alu, post_daa, State.reg_advance, State.flags_advance, reg_a_setAF, State.flags_setAF]
  rw [show AluOp.apply .add s.flags.c (s.reg .a) ((Src8.imm (bcd n)).value s) = add8 (bcd m) (bcd n) from ha ▸ rfl]
  refine ⟨fst_daa8_add8_bcd hm hn, carry_daa8_add8_bcd hm hn, rfl, ?_⟩
  rw [daa8_z, fst_daa8_add8_bcd hm hn]
  exact decide_eq_decide.mpr (bcd_eq_zero_iff hmod)

/-- Settles O35: the two operations are the unbounded sums of the statement. -/
theorem addAndAdcSumAndFlags : Obligations.AddAndAdcSumAndFlags := by
  refine ⟨accResult_of_apply fun a v _ => ⟨BitVec.toNat_ofNat _ _, rfl⟩, accResult_of_apply fun a v c => ?_⟩
  rw [AluOp.apply, adc8_eq]
  exact ⟨BitVec.toNat_ofNat _ _, rfl⟩

/-- Settles O36: a borrow of the unbounded difference is a comparison of naturals. -/
theorem subSbcCpDifferenceAndFlags : Obligations.SubSbcCpDifferenceAndFlags :=
  ⟨accResult_of_apply fun a v _ => ⟨sub8_fst a v, sub8_snd a v⟩,
    accResult_of_apply fun a v c => ⟨sbc8_fst c a v, sbc8_snd c a v⟩, accResult_of_apply fun _ _ _ => ⟨rfl, rfl⟩⟩

/-- Settles O37: each operation is the bit operation of the library, bit by bit. -/
theorem logicOperationsBitwise : Obligations.LogicOperationsBitwise :=
  ⟨accResult_of_apply fun _ _ _ => ⟨fun _ => BitVec.getLsbD_and, rfl⟩,
    accResult_of_apply fun _ _ _ => ⟨fun _ => BitVec.getLsbD_xor, rfl⟩,
    accResult_of_apply fun _ _ _ => ⟨fun _ => BitVec.getLsbD_or, rfl⟩⟩

/-- Settles O38: one frame for both instructions, at their operations on a byte. -/
theorem incAndDecKeepCarry : Obligations.IncAndDecKeepCarry := by
  refine ⟨locResult_of_post post_inc fun v fl => ?_, locResult_of_post post_dec fun v fl => ?_⟩
  · rw [inc8_eq]
    exact ⟨BitVec.toNat_add v 1, rfl⟩
  · rw [dec8_eq]
    exact ⟨rfl, rfl⟩

/-- Settles O40: the carry and the value of `DAA`, by N. -/
theorem daaAdjustsByHAndC : Obligations.DaaAdjustsByHAndC := by
  intro s
  refine ⟨_, exec_instr .daa s, regsOnly_setAF s _ 1 4, ?_⟩
  rw [post_daa, State.reg_advance, State.flags_advance, reg_a_setAF, State.flags_setAF]
  exact ⟨rfl, rfl, daa8_z _ _, fun hn => ⟨daa8_c_of_add hn _, daa8_toNat_of_add hn _⟩,
    fun hn => ⟨daa8_c_of_sub hn _, daa8_fst_of_sub hn _⟩⟩

/-- Settles O43: `CPL` writes A and the flags, the other two the flags alone. -/
theorem cplScfCcfEffects : Obligations.CplScfCcfEffects := by
  refine ⟨fun s => ⟨_, exec_instr .cpl s, regsOnly_setAF s _ 1 4, ?_, ?_⟩,
    fun s => ⟨_, exec_instr .scf s, regsOnly_setFlags s _ 1 4, ?_⟩,
    fun s => ⟨_, exec_instr .ccf s, regsOnly_setFlags s _ 1 4, ?_⟩⟩
  · rw [post_cpl, State.reg_advance, reg_a_setAF]
    exact BitVec.xor_allOnes
  · rw [post_cpl, State.flags_advance, State.flags_setAF]
  · rw [post_scf, State.flags_advance, State.flags_setFlags]
  · rw [post_ccf, State.flags_advance, State.flags_setFlags]

end Sys2Proof.Proofs
end

section
/-! PROOFS of the statements about the 16-bit arithmetic (44_alu16.md). The one fact about sums of words is that a bit
of the XOR of two addends and their sum is the carry into that bit (R200); the frames of a result put into HL with the
flags, and of a write to an operand of the table `rp`, are said once. -/

namespace Sys2Proof.Machine

/-! ## The XOR test for a carry (R200, D17) -/

/-- A bit of the sum is the XOR of the addends' bits and the carry in, so the addends cancel. -/
theorem getLsbD_xor_add {w k : Nat} (hk : k < w) (x y : BitVec w) :
    (x ^^^ y ^^^ (x + y)).getLsbD k = BitVec.carry k x y false := by
  have hsum : (x + y).getLsbD k = ((x ^^^ y).getLsbD k ^^ BitVec.carry k x y false) := by
    rw [BitVec.getLsbD_add hk, BitVec.getLsbD_xor, Bool.xor_assoc]
  rw [BitVec.getLsbD_xor, hsum, ← Bool.xor_assoc, Bool.xor_self, Bool.false_xor]

/-- Whatever its sign, the extension of a byte has that byte as its low one. -/
theorem toNat_sext16_mod_256 (n : Byte) : (sext16 n).toNat % 256 = n.toNat := by
  have hn : n.toNat < 256 := n.isLt
  rw [sext16, BitVec.toNat_signExtend, BitVec.toNat_setWidth]
  split <;> omega

/-- The result is the signed sum, reduced modulo 65536. -/
theorem addSp_fst (sp : Word) (n : Byte) : (addSp sp n).1 = BitVec.ofInt 16 (sp.toNat + n.toInt) := by
  rw [BitVec.ofInt_add, BitVec.ofInt_natCast, BitVec.ofNat_toNat, BitVec.setWidth_eq]
  rfl

theorem addSp_h_iff (sp : Word) (n : Byte) :
    (addSp sp n).2.h = true ↔ sp.toNat % 16 + n.toNat % 16 > 15 := by
  have hcarry : (addSp sp n).2.h = BitVec.carry 4 sp (sext16 n) false := getLsbD_xor_add (by decide) _ _
  have hlow : (sext16 n).toNat % 256 = n.toNat := toNat_sext16_mod_256 n
  rw [hcarry, BitVec.carry, decide_eq_true_iff, Bool.toNat_false]
  omega

theorem addSp_c_iff (sp : Word) (n : Byte) : (addSp sp n).2.c = true ↔ sp.toNat % 256 + n.toNat > 255 := by
  have hcarry : (addSp sp n).2.c = BitVec.carry 8 sp (sext16 n) false := getLsbD_xor_add (by decide) _ _
  have hlow : (sext16 n).toNat % 256 = n.toNat := toNat_sext16_mod_256 n
  rw [hcarry, BitVec.carry, decide_eq_true_iff, Bool.toNat_false]
  omega

end Sys2Proof.Machine

namespace Sys2Proof.Laws

open Machine Claims

/-! ## The frames of 44_alu16.md -/

/-- A word to HL and flags to F, then the automatic advance. -/
theorem regsOnly_setHlFlags (s : State) (x : Word × Flags) (l n : Nat) :
    RegsOnly s (((s.setPair .hl x.1).setFlags x.2).advance l n) [.h, .l, .f] l n := by
  have hkept : Kept s ((s.setPair .hl x.1).setFlags x.2) [.h, .l, .f] :=
    kept_setFlags (kept_setPair (kept_refl s _) (by decide) (by decide) _) (by decide) _
  exact regsOnly_advance hkept rfl rfl rfl rfl l n

theorem pair_hl_setHlFlags (s : State) (x : Word × Flags) : ((s.setPair .hl x.1).setFlags x.2).pair .hl = x.1 := by
  rw [State.pair_setFlags _ _ .hl nofun, State.pair_setPair_self _ .hl _ nofun]

theorem kept_setWide (s : State) (rr : WideReg) (v : Word) : Kept s (s.setWide rr v) (wideRegs rr) := by
  cases rr with
  | bc => exact kept_setPair (p := .bc) (kept_refl s _) (by decide) (by decide) v
  | de => exact kept_setPair (p := .de) (kept_refl s _) (by decide) (by decide) v
  | hl => exact kept_setPair (p := .hl) (kept_refl s _) (by decide) (by decide) v
  | sp => exact kept_setSp (kept_refl s _) v

theorem isSp_eq_false {rr : WideReg} (h : rr ≠ .sp) : isSp rr = false := by
  cases rr with
  | sp => exact absurd rfl h
  | bc | de | hl => rfl

theorem wide_advance (s : State) (rr : WideReg) (l n : Nat) : (s.advance l n).wide rr = s.wide rr := by
  cases rr <;> rfl

/-- A word to an operand of the table `rp`, then the automatic advance. -/
theorem setWide_frame (s : State) (rr : WideReg) (v : Word) (l n : Nat) :
    Kept s ((s.setWide rr v).advance l n) (wideRegs rr) ∧ MemoryKept s ((s.setWide rr v).advance l n) ∧
      Advanced s ((s.setWide rr v).advance l n) l n ∧ (rr ≠ .sp → ((s.setWide rr v).advance l n).sp = s.sp) :=
  ⟨kept_advance (kept_setWide s rr v) l n, memoryKept_of_mem_eq (s.mem_setWide rr v),
    ⟨congrArg (· + BitVec.ofNat 16 l) (s.pc_setWide rr v), congrArg (· + n) (s.cyc_setWide rr v)⟩,
    fun h => s.sp_setWide_of_not_isSp v (isSp_eq_false h)⟩

end Sys2Proof.Laws

namespace Sys2Proof.Proofs

open Machine Claims Laws

/-- Settles O31: both forms take the value and the flags of `addSp`, whose XOR test is the carry into bits 4 and 8. -/
theorem spPlusOffsetAndItsCarries : Obligations.SpPlusOffsetAndItsCarries := by
  intro e s
  have hsp : Kept s ((s.setSp (addSp s.sp e).1).setFlags (addSp s.sp e).2) [.f] :=
    kept_setFlags (kept_setSp (kept_refl s _) _) (by decide) _
  refine ⟨_, _, exec_instr (.ldHlSpE e) s, exec_instr (.addSpE e) s, regsOnly_setHlFlags s _ 2 12,
    kept_advance hsp 2 16, memoryKept_of_mem_eq rfl, ⟨rfl, rfl⟩, ?_⟩
  rw [post_ldHlSpE, post_addSpE, State.pair_advance, State.sp_advance, State.flags_advance, State.flags_advance,
    pair_hl_setHlFlags, State.flags_setFlags, State.flags_setFlags]
  exact ⟨addSp_fst s.sp e, rfl, rfl, rfl, rfl, rfl, rfl, addSp_h_iff s.sp e, addSp_c_iff s.sp e⟩

/-- Settles O44: the instruction puts the sum and the flags of `addHl16` into HL and F. -/
theorem addHlSumAndFlags : Obligations.AddHlSumAndFlags := by
  intro rr s
  refine ⟨_, exec_instr (.addHl rr) s, regsOnly_setHlFlags s _ 1 8, ?_⟩
  rw [post_addHl, State.pair_advance, State.flags_advance, pair_hl_setHlFlags, State.flags_setFlags]
  exact ⟨BitVec.toNat_ofNat _ 16, rfl⟩

/-- Settles O45: one frame for both instructions, at the word before plus and minus one. -/
theorem wideIncAndDecTouchNoFlag : Obligations.WideIncAndDecTouchNoFlag := by
  intro rr s
  obtain ⟨hkeptInc, hmemInc, hadvInc, hspInc⟩ := setWide_frame s rr (s.wide rr + 1) 1 8
  obtain ⟨hkeptDec, hmemDec, hadvDec, hspDec⟩ := setWide_frame s rr (s.wide rr - 1) 1 8
  refine ⟨_, _, exec_instr (.incWide rr) s, exec_instr (.decWide rr) s, hkeptInc, hmemInc, hadvInc, hspInc,
    hkeptDec, hmemDec, hadvDec, hspDec, ?_, ?_⟩
  · rw [post_incWide, wide_advance, State.wide_setWide]
    exact BitVec.toNat_add _ 1
  · rw [post_decWide, wide_advance, State.wide_setWide, BitVec.toNat_sub, Nat.add_comm]
    rfl

end Sys2Proof.Proofs
end

section
/-! PROOFS of the statements about the rotates, shifts and bit operations (45_rotate_shift_bit.md). Every rotate and
shift but `SWAP` is a shift by one with one bit moved in at the free end, so the table of bit movements is two lemmas
about bytes; an instruction is then its operation on A or on a location. -/

namespace Sys2Proof.Machine

/-! ## The bits of a shifted byte -/

theorem getLsbD_bitByte (b : Bool) (k : Nat) : (bitByte b).getLsbD k = (decide (k = 0) && b) := by
  cases b <;> simp [bitByte]

/-- A shift to the left by one, with the bit `c` moved in at bit 0. -/
theorem getLsbD_shiftLeft_in (v : Byte) (c : Bool) {k : Nat} (hk : k < 8) :
    ((v <<< 1) ||| bitByte c).getLsbD k = if k = 0 then c else v.getLsbD (k - 1) := by
  rw [BitVec.getLsbD_or, BitVec.getLsbD_shiftLeft, getLsbD_bitByte]
  by_cases h0 : k = 0
  · simp [h0]
  · have h1 : ¬ k < 1 := by omega
    simp [h0, h1, hk]

/-- A shift to the right by one, with the bit `c` moved in at bit 7. -/
theorem getLsbD_ushiftRight_in (v : Byte) (c : Bool) {k : Nat} (hk : k < 8) :
    ((v >>> 1) ||| (bitByte c <<< 7)).getLsbD k = if k = 7 then c else v.getLsbD (k + 1) := by
  rw [BitVec.getLsbD_or, BitVec.getLsbD_ushiftRight, BitVec.getLsbD_shiftLeft, getLsbD_bitByte]
  by_cases h7 : k = 7
  · simp [h7]
  · have hlow : k < 7 := by omega
    simp [h7, hlow, Nat.add_comm]

theorem getLsbD_swap8 (v : Byte) {k : Nat} (hk : k < 8) : (swap8 v).1.getLsbD k = v.getLsbD ((k + 4) % 8) := by
  show ((v <<< 4) ||| (v >>> 4)).getLsbD k = _
  rw [BitVec.getLsbD_or, BitVec.getLsbD_ushiftRight, BitVec.getLsbD_shiftLeft]
  by_cases hlow : k < 4
  · have hmod : (k + 4) % 8 = 4 + k := by omega
    simp [hlow, hmod]
  · have hmod : (k + 4) % 8 = k - 4 := by omega
    have hout : v.getLsbD (4 + k) = false := BitVec.getLsbD_of_ge v _ (by omega)
    simp [hlow, hmod, hk, hout]

/-- `SLA` is the shift to the left with a 0 moved in. -/
theorem sla8_fst (v : Byte) : (sla8 v).1 = (v <<< 1) ||| bitByte false := BitVec.or_zero.symm

/-- `SRL` is the shift to the right with a 0 moved in. -/
theorem srl8_fst (v : Byte) : (srl8 v).1 = (v >>> 1) ||| (bitByte false <<< 7) := BitVec.or_zero.symm

/-- `SRA` is the shift to the right with bit 7 itself moved in. -/
theorem sra8_fst (v : Byte) : (sra8 v).1 = (v >>> 1) ||| (bitByte (v.getLsbD 7) <<< 7) := by
  have hsign : v &&& 0x80#8 = bitByte (v.getLsbD 7) <<< 7 := by
    rw [show (0x80#8) = BitVec.twoPow 8 7 from rfl, BitVec.and_twoPow]
    cases v.getLsbD 7 <;> rfl
  rw [← hsign]; rfl

/-! ## One bit of a byte -/

theorem number_eq_code (b : Oct) : b.number = b.code.toNat := by
  cases b <;> rfl

theorem getLsbD_one_shiftLeft (b : Oct) (k : Nat) :
    (1#8 <<< b.number).getLsbD k = decide (k = b.code.toNat) := by
  have hb : b.code.toNat < 8 := b.code.isLt
  rw [number_eq_code, ← BitVec.twoPow_eq, BitVec.getLsbD_twoPow, decide_eq_true hb, Bool.true_and]
  exact decide_eq_decide.mpr eq_comm

theorem getLsbD_res8 (b : Oct) (v : Byte) (k : Nat) :
    (res8 b v).getLsbD k = if k = b.code.toNat then false else v.getLsbD k := by
  rw [res8, BitVec.getLsbD_and, BitVec.getLsbD_not, getLsbD_one_shiftLeft]
  by_cases hk : k = b.code.toNat
  · simp [hk]
  · have hlt : v.getLsbD k = true → k < 8 := BitVec.lt_of_getLsbD
    simpa [hk] using hlt

theorem getLsbD_set8 (b : Oct) (v : Byte) (k : Nat) :
    (set8 b v).getLsbD k = if k = b.code.toNat then true else v.getLsbD k := by
  rw [set8, BitVec.getLsbD_or, getLsbD_one_shiftLeft]
  by_cases hk : k = b.code.toNat <;> simp [hk]

end Sys2Proof.Machine

namespace Sys2Proof.Laws

open Machine Claims

/-! ## The table of bit movements (45_rotate_shift_bit.md part 1) -/

theorem getLsbD_apply_rot (op : RotOp) (c : Bool) (v : Byte) {k : Nat} (hk : k < 8) :
    (op.apply c v).1.getLsbD k = movedBit op c v.getLsbD k := by
  cases op with
  | rlc | rl => exact getLsbD_shiftLeft_in v _ hk
  | rrc | rr => exact getLsbD_ushiftRight_in v _ hk
  | sla => exact sla8_fst v ▸ getLsbD_shiftLeft_in v false hk
  | srl => exact srl8_fst v ▸ getLsbD_ushiftRight_in v false hk
  | sra => exact sra8_fst v ▸ getLsbD_ushiftRight_in v _ hk
  | swap => exact getLsbD_swap8 v hk

theorem flags_apply_rot (op : RotOp) (c : Bool) (v : Byte) :
    (op.apply c v).2 = ⟨decide ((op.apply c v).1 = 0), false, false, movedCarry op v.getLsbD⟩ := by
  cases op <;> rfl

/-! ## The shapes of 45_rotate_shift_bit.md -/

/-- An accumulator rotate is its operation on A, with Z forced to 0 (R221 to R224). -/
theorem rotatesAcc_of_post {f : Form} {op : RotOp}
    (h : ∀ s, f.post s = (s.setAF ((op.apply s.flags.c (s.reg .a)).1,
      { (op.apply s.flags.c (s.reg .a)).2 with z := false })).advance 1 4) (s : State) :
    ∃ t, exec f.instr s = .next t ∧ RegsOnly s t [.a, .f] 1 4 ∧
      (∀ k, k < 8 → (t.reg .a).getLsbD k = movedBit op s.flags.c (s.reg .a).getLsbD k) ∧
      t.flags = ⟨false, false, false, movedCarry op (s.reg .a).getLsbD⟩ := by
  refine ⟨_, exec_instr f s, ?_⟩
  rw [h, State.reg_advance, State.flags_advance, reg_a_setAF, State.flags_setAF, flags_apply_rot]
  exact ⟨regsOnly_setAF s _ 1 4, fun k hk => getLsbD_apply_rot op _ _ hk, rfl⟩

/-- `BIT` on either place is the flags of its test. -/
theorem bit_testsOnly (b : Oct) (x : Loc8) (s : State) :
    ∃ t, exec (Form.bit b x).instr s = .next t ∧ RegsOnly s t [.f] 1 x.testTicks ∧
      t.flags = ⟨!(x.value s).getLsbD b.code.toNat, false, true, s.flags.c⟩ := by
  refine ⟨_, exec_instr _ s, regsOnly_setFlags s _ 1 _, ?_⟩
  rw [post_bit, State.flags_advance, State.flags_setFlags, bitTest, number_eq_code]

/-- An instruction that writes a location and no flag is its operation on the byte there. -/
theorem locResult_of_put {f : Loc8 → Form} {g : Byte → Byte} {P : Byte → Flags → Byte → Flags → Prop}
    (hpost : ∀ x s, (f x).post s = (x.put (g (x.value s)) s).advance 1 x.modifyTicks)
    (h : ∀ v fl, P v fl (g v) fl) : LocResult f P := by
  refine ⟨fun r s => ⟨_, exec_instr _ s, ?_⟩, fun s => ⟨_, g (s.read8 s.hl), exec_instr _ s, ?_⟩⟩
  · have hkept : Kept s ((Loc8.reg r).put (g (s.reg r.reg)) s) [r.reg, .f] :=
      kept_setReg (kept_refl s _) (List.mem_cons_self ..) _
    rw [hpost]
    refine ⟨regsOnly_advance hkept rfl rfl rfl rfl 1 4, ?_⟩
    rw [State.reg_advance, State.flags_advance, State.flags_put]
    exact (s.reg_setOpReg r (g (s.reg r.reg))).symm ▸ h _ _
  · rw [hpost]
    refine ⟨kept_advance (kept_write8 (kept_refl s _) s.hl _) 1 12, rfl, byteStored_of_mem_eq rfl, ⟨rfl, rfl⟩, ?_⟩
    rw [State.flags_advance, State.flags_put]
    exact h _ _

end Sys2Proof.Laws

namespace Sys2Proof.Proofs

open Machine Claims Laws

/-- Settles O47: one frame for the eight operations, whose bytes and flags are the table's. -/
theorem rotatesAndShiftsMoveBits : Obligations.RotatesAndShiftsMoveBits := fun op =>
  locResult_of_post (post_rot op) fun v fl =>
    ⟨fun _ hk => getLsbD_apply_rot op fl.c v hk, flags_apply_rot op fl.c v⟩

/-- Settles O46: the four instructions are one shape, at their operations of the table. -/
theorem accumulatorRotatesForceZeroFlagClear : Obligations.AccumulatorRotatesForceZeroFlagClear := by
  simp only [Obligations.AccumulatorRotatesForceZeroFlagClear, List.forall_mem_cons]
  exact ⟨rotatesAcc_of_post post_rlca, rotatesAcc_of_post post_rla, rotatesAcc_of_post post_rrca,
    rotatesAcc_of_post post_rra, nofun⟩

/-- Settles O48: the register and the byte at HL are the two places of one test. -/
theorem bitTestsWithoutWriting : Obligations.BitTestsWithoutWriting := fun b =>
  ⟨fun r s => bit_testsOnly b (.reg r) s, fun s => bit_testsOnly b .atHl s⟩

/-- Settles O49: one frame for both instructions, at their operations on a byte. -/
theorem resAndSetChangeOneBit : Obligations.ResAndSetChangeOneBit := fun b =>
  ⟨locResult_of_put (post_res b) fun v _ => ⟨fun k => getLsbD_res8 b v k, rfl⟩,
    locResult_of_put (post_set b) fun v _ => ⟨fun k _ => getLsbD_set8 b v k, rfl⟩⟩

end Sys2Proof.Proofs
end

section
/-! PROOFS of the statements about the control transfers (46_control.md). Every transfer, taken or not, ends in one
redirection of PC; a call taken has a push before it, a return taken a pop. What each of the three leaves unchanged is
said once, and a statement is these at its instructions. -/

namespace Sys2Proof.Laws

open Machine Claims

/-! ## What a jump, a call and a return leave unchanged -/

theorem kept_goTo {s t : State} {rs : List Reg8} (h : Kept s t rs) (a : Word) (n : Nat) : Kept s (t.goTo a n) rs := h

/-- A jump, and every conditional transfer not taken. -/
theorem jumpOnly_goTo (s : State) (a : Word) (n : Nat) : JumpOnly s (s.goTo a n) a n :=
  ⟨kept_goTo (kept_refl s []) a n, rfl, memoryKept_of_mem_eq rfl, rfl, rfl⟩

/-- A call: the push, then the redirection. -/
theorem push16_goTo_frame {s t : State} {v a : Word} {n : Nat} (ht : t = (s.push16 v).goTo a n) :
    Kept s t [] ∧ t.sp = s.sp - 2 ∧ WordStored s t (s.sp - 2) v ∧ Redirected s t a n := by
  subst ht
  exact ⟨kept_goTo (kept_push16 (kept_refl s []) v) a n, rfl, wordStored_push16 s v, rfl, rfl⟩

/-- A return: the pop, then the redirection to the value popped. -/
theorem popDone_goTo_frame {s t : State} {n : Nat} (ht : t = s.popDone.goTo s.popValue n) :
    Kept s t [] ∧ MemoryKept s t ∧ t.sp = s.sp + 2 ∧ Redirected s t (wordAtSp s) n := by
  subst ht
  exact ⟨kept_goTo (kept_popDone (kept_refl s [])) _ n, memoryKept_of_mem_eq rfl, rfl, popValue_eq_wordAtSp s, rfl⟩

/-- `RETI` is the return taken from the state with IME set. -/
theorem post_reti_eq_goTo (s : State) :
    Form.reti.post s = (s.setIme true).popDone.goTo (s.setIme true).popValue 16 := rfl

/-! ## The shapes of 46_control.md -/

/-- An instruction that is one redirection of PC, to a target and with ticks that may depend on a condition. -/
theorem jumps_of_post {f : Form} {target : State → Word} {ticks : State → Nat}
    (h : ∀ s, f.post s = s.goTo (target s) (ticks s)) (s : State) :
    ∃ t, exec f.instr s = .next t ∧ JumpOnly s t (target s) (ticks s) := by
  refine ⟨_, exec_instr f s, ?_⟩
  rw [h]
  exact jumpOnly_goTo s _ _

/-- An instruction that is one push and one redirection of PC. -/
theorem calls_of_post {f : Form} {value : State → Word} {target : Word} {ticks : Nat}
    (h : ∀ s, f.post s = (s.push16 (value s)).goTo target ticks) (s : State) :
    ∃ t, exec f.instr s = .next t ∧ Kept s t [] ∧ t.sp = s.sp - 2 ∧
      WordStored s t (s.sp - 2) (value s) ∧ Redirected s t target ticks :=
  ⟨_, exec_instr f s, push16_goTo_frame (h s)⟩

/-- A conditional redirection redirects PC to the target that the condition picks. -/
theorem ite_goTo (cc : Cond) (s : State) (a b : Word) (m n : Nat) :
    (if cc.holds s then s.goTo a m else s.goTo b n) =
      s.goTo (if condition cc s then a else b) (if condition cc s then m else n) := by
  rw [holds_eq_condition]
  exact (apply_ite₂ ..).symm

/-- In the reference memory the word at SP after a push and a redirection is the word pushed. -/
theorem wordAtSp_push16_goTo (s : State) (v a : Word) (n : Nat) (hm : s.mem.isFlat = true) :
    wordAtSp ((s.push16 v).goTo a n) = v :=
  s.popValue_push16 v hm

/-- `RET` after an instruction that is one push and one redirection of PC: the pop takes what memory answers at the
pushed word and adds the 2 that the push subtracted. -/
theorem ret_after_call {f : Form} {value : State → Word} {target : Word} {ticks : Nat}
    (hpost : ∀ s, f.post s = (s.push16 (value s)).goTo target ticks) (s t : State) (h : exec f.instr s = .next t) :
    ∃ u, exec Form.ret.instr t = .next u ∧ u.pc = wordAtSp t ∧ (s.mem.isFlat = true → u.pc = value s) ∧
      u.sp = s.sp ∧ u.regs = s.regs := by
  have ht : t = (s.push16 (value s)).goTo target ticks := by rw [of_exec_eq h, form_instr, hpost]
  have hpc : (Form.ret.post t).pc = wordAtSp t := popValue_eq_wordAtSp t
  refine ⟨_, exec_instr .ret t, hpc, fun hm => ?_, ?_, ?_⟩
  · rw [hpc, ht, wordAtSp_push16_goTo s _ _ _ hm]
  · rw [ht]
    exact BitVec.sub_add_cancel s.sp 2
  · rw [ht]; rfl

end Sys2Proof.Laws

namespace Sys2Proof.Proofs

open Machine Claims Laws

/-- Settles O53: `CALL` and `RST` are one push and one redirection, which the return after them undoes. -/
theorem returnAfterCallComesBack : Obligations.ReturnAfterCallComesBack :=
  ⟨fun nn => ret_after_call (post_call nn), fun y => ret_after_call (post_rst y)⟩

/-- Settles O50: every jump is one redirection; the relative target is the signed sum of D14. -/
theorem jumpsReachTheirTarget : Obligations.JumpsReachTheirTarget := by
  refine ⟨fun nn => jumps_of_post (post_jp nn), fun cc nn => jumps_of_post fun s => ?_, jumps_of_post post_jpHl,
    fun e => jumps_of_post fun s => ?_, fun cc e => jumps_of_post fun s => ?_⟩
  · rw [post_jpCc, ite_goTo]; rfl
  · rw [post_jr, relativeTarget_eq]
  · rw [post_jrCc, ite_goTo, relativeTarget_eq]; rfl

/-- Settles O51: a call not taken is the jump to the following instruction. -/
theorem callsAndRestartsPushReturnAddress : Obligations.CallsAndRestartsPushReturnAddress := by
  refine ⟨fun nn => calls_of_post (post_call nn), fun cc nn s => ⟨_, exec_instr _ s, ?_⟩, fun y s => ?_⟩
  · rw [post_callCc, holds_eq_condition]
    cases condition cc s with
    | true =>
      obtain ⟨hkept, hcall⟩ := push16_goTo_frame (s := s) (v := s.following 3) (a := nn) (n := 24) rfl
      exact ⟨hkept, fun _ => hcall, nofun⟩
    | false =>
      obtain ⟨hkept, hpass⟩ := jumpOnly_goTo s (s.following 3) 12
      exact ⟨hkept, nofun, fun _ => hpass⟩
  · rw [← restart_eq]
    exact calls_of_post (post_rst y) s

/-- Settles O52: `RETI` is the return from the state with IME set; a return not taken is the jump to the following
instruction. -/
theorem returnsPopProgramCounter : Obligations.ReturnsPopProgramCounter := by
  refine ⟨fun s => ?_, fun cc s => ⟨_, exec_instr _ s, ?_⟩, fun s => ?_⟩
  · obtain ⟨hkept, hmem, hsp, hpc⟩ := popDone_goTo_frame (post_ret s)
    exact ⟨_, exec_instr .ret s, hkept, hsp, hmem, hpc⟩
  · rw [post_retCc, holds_eq_condition]
    cases condition cc s with
    | true =>
      obtain ⟨hkept, hmem, hret⟩ := popDone_goTo_frame (s := s) (n := 20) rfl
      exact ⟨hkept, hmem, fun _ => hret, nofun⟩
    | false =>
      obtain ⟨hkept, hsp, hmem, hpc⟩ := jumpOnly_goTo s (s.following 1) 8
      exact ⟨hkept, hmem, nofun, fun _ => ⟨hsp, hpc⟩⟩
  · obtain ⟨hkept, hmem, hsp, hpc⟩ := popDone_goTo_frame (post_reti_eq_goTo s)
    exact ⟨_, exec_instr .reti s, rfl, hkept, hsp, hmem, hpc⟩

end Sys2Proof.Proofs
end

section
/-! PROOFS of the statements about the system instructions (47_system.md). Every one of them is the automatic advance at
4 ticks: of the state itself for `NOP`, `STOP` and the undefined opcodes, of the state with one flag written for the
others. -/

namespace Sys2Proof.Laws

open Machine Claims

/-- An instruction that is the advance alone changes PC and CYC only. -/
theorem passes_of_post {f : Form} {l : Nat} (h : ∀ s, f.post s = s.advance l 4) (s : State) :
    ∃ t, exec f.instr s = .next t ∧ RegsOnly s t [] l 4 := by
  refine ⟨_, exec_instr f s, ?_⟩
  rw [h]
  exact regsOnly_advance (kept_refl s []) rfl rfl rfl rfl l 4

/-- An instruction that is one update and the advance over its one byte. -/
theorem exec_of_post_advance {f : Form} {update : State → State} (h : ∀ s, f.post s = (update s).advance 1 4)
    (s : State) :
    exec f.instr s = .next { update s with pc := (update s).pc + 1, cyc := (update s).cyc + 4 } := by
  rw [exec_instr, h]
  rfl

end Sys2Proof.Laws

namespace Sys2Proof.Proofs

open Machine Claims Laws

/-- Settles O54: all of them are the advance alone, over one byte or, for `STOP`, two. -/
theorem nopStopAndUndefinedChangeNothing : Obligations.NopStopAndUndefinedChangeNothing :=
  ⟨passes_of_post post_nop, fun u => passes_of_post (post_undef u), fun n => passes_of_post (post_stop n)⟩

/-- Settles O55: each is the advance of the state with its flag written. -/
theorem controlFlagInstructionsWriteOneFlag : Obligations.ControlFlagInstructionsWriteOneFlag := fun s =>
  ⟨exec_of_post_advance post_halt s, exec_of_post_advance post_di s, exec_of_post_advance post_ei s,
    exec_of_post_advance post_prefixCb s⟩

end Sys2Proof.Proofs
end

section
/-! PROOFS of the statements about interrupts (60_exceptions.md, with R92 for the halted core and R313 for a dispatch
after a prefix). A line is its bit of IE and of IF; the halted step, the search by priority and the step that dispatches
are each said once in these bits. -/

namespace Sys2Proof.Laws

open Machine Claims

/-! ## A line and its bit -/

theorem getLsbD_mask_self (l : Line) : l.mask.getLsbD (lineBit l) = true := by
  cases l <;> rfl

theorem vector_eq (l : Line) : l.vector = BitVec.ofNat 16 (0x40 + 8 * lineBit l) := by
  cases l <;> rfl

/-- The bit of every line is one of the five that the halted step polls. -/
theorem and_line_bits_ne_zero_of_getLsbD {b : Byte} {l : Line} (h : b.getLsbD (lineBit l) = true) :
    (b &&& 0x1F != 0) = true := by
  have hpolled : (0x1F : Byte).getLsbD (lineBit l) = true := by cases l <;> rfl
  have hbit : (b &&& 0x1F).getLsbD (lineBit l) = true := by rw [BitVec.getLsbD_and, h, hpolled]; rfl
  refine bne_iff_ne.2 fun hzero => ?_
  rw [hzero] at hbit
  simp at hbit

/-! ## The wake of a halted core (R289) -/

theorem step_of_requested {s : State} {l : Line} (hhalt : s.halt = true)
    (hreq : (s.read8 0xFF0F).getLsbD (lineBit l) = true) :
    step s = .next { s with cyc := s.cyc + 4, halt := false } := by
  have hwake : s.anyRequested = true := and_line_bits_ne_zero_of_getLsbD hreq
  rw [step_halted s hhalt, State.haltedStep, hwake]
  rfl

/-- Every byte after a line is raised, in the reference memory. -/
theorem read8_raiseLine (s : State) (l : Line) (hm : s.mem.isFlat = true) (x : Word) :
    (s.raiseLine l).read8 x = if x = 0xFF0F then s.read8 0xFF0F ||| l.mask else s.read8 x :=
  s.read8_privilegedWrite _ x _ hm

theorem requested_raiseLine (s : State) (l : Line) (hm : s.mem.isFlat = true) :
    ((s.raiseLine l).read8 0xFF0F).getLsbD (lineBit l) = true := by
  rw [read8_raiseLine s l hm, if_pos rfl, BitVec.getLsbD_or, getLsbD_mask_self, Bool.or_true]

/-! ## The search by priority (R283) -/

theorem mem_byPriority (l : Line) : l ∈ Line.byPriority := by
  cases l <;> decide

theorem pairwise_byPriority : Line.byPriority.Pairwise (fun k l => lineBit k < lineBit l) := by
  decide

theorem getElem?_byPriority_lineBit (l : Line) : Line.byPriority[lineBit l]? = some l := by
  cases l <;> rfl

theorem lineBit_injective : Function.Injective lineBit := fun k l h =>
  Option.some.inj (by rw [← getElem?_byPriority_lineBit k, h, getElem?_byPriority_lineBit l])

/-- The line that the search finds comes before every other line that it could have found. -/
theorem first_of_find?_byPriority {p : Line → Bool} {l : Line} (h : Line.byPriority.find? p = some l) :
    p l = true ∧ ∀ k, lineBit k < lineBit l → p k = false := by
  obtain ⟨hl, before, after, hsplit, hbefore⟩ := List.find?_eq_some_iff_append.1 h
  refine ⟨hl, fun k hk => ?_⟩
  obtain ⟨-, hfrom, -⟩ := List.pairwise_append.1 (hsplit ▸ pairwise_byPriority)
  obtain ⟨hlater, -⟩ := List.pairwise_cons.1 hfrom
  rcases List.mem_append.1 (hsplit ▸ mem_byPriority k) with hmem | hmem
  · simpa using hbefore k hmem
  · rcases List.mem_cons.1 hmem with rfl | hmem
    · exact absurd hk (lt_irrefl _)
    · exact absurd hk (hlater k hmem).not_gt

theorem find?_byPriority_eq_some_iff (p : Line → Bool) (l : Line) :
    Line.byPriority.find? p = some l ↔ p l = true ∧ ∀ k, lineBit k < lineBit l → p k = false := by
  refine ⟨first_of_find?_byPriority, fun ⟨hl, hbefore⟩ => ?_⟩
  obtain ⟨k, hfound⟩ : ∃ k, Line.byPriority.find? p = some k :=
    Option.isSome_iff_exists.1 (List.find?_isSome.2 ⟨l, mem_byPriority l, hl⟩)
  obtain ⟨hk, hbefore'⟩ := first_of_find?_byPriority hfound
  rcases lt_trichotomy (lineBit k) (lineBit l) with hlt | heq | hgt
  · exact absurd hk (by simp [hbefore k hlt])
  · rw [hfound, lineBit_injective heq]
  · exact absurd hl (by simp [hbefore' l hgt])

theorem find?_byPriority_eq_none_iff (p : Line → Bool) :
    Line.byPriority.find? p = none ↔ ∀ l, p l = false := by
  simp [List.find?_eq_none, mem_byPriority]

/-- The line that the interrupt check finds, read from the bits of IE and IF (R282, R284). -/
theorem firstDispatchable_eq (s : State) :
    s.firstDispatchable = if s.ime then Line.byPriority.find? (enabledAndRequested s) else none := by
  have hbits : (fun l => s.lineEnabled l && s.lineRequested l) = enabledAndRequested s :=
    funext fun l => congrArg₂ (· && ·) (and_mask_ne_zero _ l) (and_mask_ne_zero _ l)
  rw [State.firstDispatchable, hbits]

theorem firstDispatchable_eq_some_iff (s : State) (l : Line) :
    s.firstDispatchable = some l ↔ s.ime = true ∧ enabledAndRequested s l = true ∧
      ∀ k, lineBit k < lineBit l → enabledAndRequested s k = false := by
  rw [firstDispatchable_eq, ← find?_byPriority_eq_some_iff]
  cases s.ime <;> simp

theorem firstDispatchable_eq_none_iff (s : State) :
    s.firstDispatchable = none ↔ s.ime = false ∨ ∀ l, enabledAndRequested s l = false := by
  rw [firstDispatchable_eq, ← find?_byPriority_eq_none_iff]
  cases s.ime <;> simp

/-! ## The step that dispatches (R286) -/

theorem interruptCheck_of_some {s : State} {l : Line} (h : s.firstDispatchable = some l) :
    s.interruptCheck = (s.dispatch l).addTicks s.intDispatchTicks := by
  rw [State.interruptCheck, h]

/-- It runs what stands at the vector, in memory as the dispatch left it. -/
theorem step_dispatching {s : State} {l : Line} (hrun : s.halt = false) (hsome : s.firstDispatchable = some l) :
    step s = exec (s.dispatch l).fetch (((s.dispatch l).addTicks s.intDispatchTicks).setExt false) := by
  rw [step_running s hrun, interruptCheck_of_some hsome, State.fetch_addTicks, exec_eq]

/-- An instruction of the extended table moves PC by its one byte and keeps SP, IME and EXT: none redirects PC, uses the
stack or writes a state flag. -/
theorem post_frame_of_format_cb {f : Form} (h : f.format = .cb) (s : State) :
    (f.post s).pc = s.pc + 1 ∧ (f.post s).sp = s.sp ∧ (f.post s).ime = s.ime ∧ (f.post s).ext = s.ext := by
  cases f with
  | rot _ _ | bit _ _ | res _ _ | set _ _ => exact ⟨pc_post _ s, by simp, by simp, by simp⟩
  | ld _ src | alu _ src => cases src <;> exact absurd h nofun
  | _ => exact absurd h nofun

end Sys2Proof.Laws

namespace Sys2Proof.Proofs

open Machine Claims Laws

/-- Settles O16: the bit of a line wakes the core, and raising the line sets it in the reference memory. -/
theorem anyRequestWakesAHaltedCore : Obligations.AnyRequestWakesAHaltedCore := by
  intro s l hhalt
  refine ⟨step_of_requested hhalt, fun hm => ?_⟩
  have hreq := requested_raiseLine s l hm
  exact ⟨_, step_of_requested (s := s.raiseLine l) hhalt hreq, rfl, rfl, rfl, rfl, rfl, hreq,
    fun x hx => (read8_raiseLine s l hm x).trans (if_neg hx)⟩

/-- Settles O21: the check is the search by priority over the bits of IE and IF, if IME is set. -/
theorem interruptCheckTakesHighestPriority : Obligations.InterruptCheckTakesHighestPriority := fun s =>
  ⟨firstDispatchable_eq_some_iff s, firstDispatchable_eq_none_iff s, interruptCheck_of_none,
    fun _ => interruptCheck_of_some⟩

/-- Settles O23: `RETI` pops what memory answers at the word that the dispatch pushed, and adds the 2 that the push
subtracted. -/
theorem retiUndoesDispatch : Obligations.RetiUndoesDispatch := fun s l =>
  ⟨_, exec_instr .reti (s.dispatch l), popValue_eq_wordAtSp _, s.popValue_dispatch l,
    BitVec.sub_add_cancel s.sp 2, rfl, rfl, rfl, rfl⟩

/-- Settles O11: the fetch at the vector is what the decoder reads there. -/
theorem dispatchingStepRunsHandlerOpcode : Obligations.DispatchingStepRunsHandlerOpcode := by
  intro s l i rest hrun hsome hdecode
  rw [step_dispatching hrun hsome, State.fetch_of_decode hdecode]

/-- Settles O22: field by field, with the mask and the vector of the line in the terms of its bit. -/
theorem dispatchSavesPcAndGoesToVector : Obligations.DispatchSavesPcAndGoesToVector := by
  intro s l
  rw [← mask_eq_shiftLeft, ← vector_eq]
  exact ⟨rfl, rfl, rfl, rfl, rfl, rfl, rfl, rfl, s.dispatch_mem l, fun hm x => s.read8_dispatch l x hm⟩

/-- Settles O24: with EXT set the fetch at the vector is an entry of the extended table. -/
theorem interruptAfterPrefixRunsExtendedHandlerByte : Obligations.InterruptAfterPrefixRunsExtendedHandlerByte := by
  intro s l hrun hext hsome
  have hfetch : (s.dispatch l).fetch.isExtended = true := (isExtended_tableEntry ..).trans hext
  have hstep := step_dispatching hrun hsome
  rw [exec_eq] at hstep
  obtain ⟨hpc, hsp, hime, hextAfter⟩ := post_frame_of_format_cb (beq_iff_eq.1 hfetch)
    (((s.dispatch l).addTicks s.intDispatchTicks).setExt false)
  exact ⟨_, _, hfetch, opcode_tableEntry .., hstep, exec_eq _ _, hpc, hextAfter, hime, hsp⟩

end Sys2Proof.Proofs
end

section
/-! PROOF of the statement about `DAA` after a subtraction (95_test_vectors.md S4): H and C of the difference of two BCD
bytes are the borrows of the decimal subtraction, and what `DAA` takes off is what each is worth too much. -/

namespace Sys2Proof.Laws

open Machine Claims

section BcdDifference

variable {m n : Nat} (hm : m < 100) (hn : n < 100)
include hm hn

/-- H of the difference is the borrow of the low digits. -/
theorem h_sub8_bcd : (sub8 (bcd m) (bcd n)).2.h = decide (m % 10 < n % 10) := by
  rw [sub8_snd, bcd_toNat hm, bcd_toNat hn]
  exact decide_eq_decide.mpr (by omega)

/-- C of the difference is the borrow of the numbers. -/
theorem c_sub8_bcd : (sub8 (bcd m) (bcd n)).2.c = decide (m < n) := by
  rw [sub8_snd, bcd_toNat hm, bcd_toNat hn]
  exact decide_eq_decide.mpr (by omega)

theorem carry_daa8_sub8_bcd :
    (daa8 (sub8 (bcd m) (bcd n)).2 (sub8 (bcd m) (bcd n)).1).2.c = decide (m < n) := by
  rw [daa8_c_of_sub rfl, c_sub8_bcd hm hn]

/-- A borrow is worth 16 in the nibble and 10 in the digit: the bytes' difference is too large by 6 for a borrow of the
low digits and by 0x60 for a borrow of the numbers, which the byte makes up with 256. -/
theorem digits_difference :
    (m + 100 - n) % 100 / 10 * 16 + (m + 100 - n) % 100 % 10 + (if m % 10 < n % 10 then 6 else 0) +
        (if m < n then 0x60 else 0) + (n / 10 * 16 + n % 10) =
      m / 10 * 16 + m % 10 + (if m < n then 256 else 0) := by
  split_ifs <;> omega

/-- The same of the bytes, which do not hold the 256. -/
theorem bcd_difference_add :
    bcd ((m + 100 - n) % 100) + (if m % 10 < n % 10 then 6 else 0) + (if m < n then 0x60 else 0) + bcd n =
      bcd m := by
  apply BitVec.eq_of_toNat_eq
  have hdigits := digits_difference hm hn
  have hlow : (if m % 10 < n % 10 then 6 else 0 : Byte).toNat = if m % 10 < n % 10 then 6 else 0 := by split <;> rfl
  have hhigh : (if m < n then 0x60 else 0 : Byte).toNat = if m < n then 0x60 else 0 := by split <;> rfl
  have hlt : m / 10 * 16 + m % 10 < 256 := by omega
  simp only [BitVec.toNat_add, Nat.mod_add_mod]
  rw [hlow, hhigh, bcd_toNat hm, bcd_toNat hn, bcd_toNat (Nat.mod_lt _ (by decide)), hdigits]
  split <;> omega

theorem fst_daa8_sub8_bcd :
    (daa8 (sub8 (bcd m) (bcd n)).2 (sub8 (bcd m) (bcd n)).1).1 = bcd ((m + 100 - n) % 100) := by
  rw [daa8_fst_of_sub rfl, sub8_fst, h_sub8_bcd hm hn, c_sub8_bcd hm hn]
  simp only [decide_eq_true_eq, sub_eq_iff_eq_add]
  exact (bcd_difference_add hm hn).symm

end BcdDifference

end Sys2Proof.Laws

namespace Sys2Proof.Proofs

open Machine Claims Laws

/-- Settles O42: `SUB` then `DAA` on the two BCD bytes, by the borrows of the two digits. -/
theorem daaCorrectsBcdDifferences : Obligations.DaaCorrectsBcdDifferences := by
  intro m n s hm hn ha
  refine ⟨_, _, exec_instr _ s, exec_instr .daa _, ?_⟩
  simp only [post_alu, post_daa, State.reg_advance, State.flags_advance, reg_a_setAF, State.flags_setAF]
  rw [show AluOp.apply .sub s.flags.c (s.reg .a) ((Src8.imm (bcd n)).value s) = sub8 (bcd m) (bcd n) from ha ▸ rfl]
  exact ⟨fst_daa8_sub8_bcd hm hn, carry_daa8_sub8_bcd hm hn⟩

end Sys2Proof.Proofs
end
